-- ==== Sys2Proof/Word.lean ====
section
/-! DEFINITION. Word.lean: the byte of the link frames and of the serial memory (R180, R193). -/

namespace Sys2Proof

/-- One byte as it travels on a link or stands in the serial memory. -/
abbrev Byte := BitVec 8

end Sys2Proof
end

