-- ==== Sys2Proof/Syntax.lean ====
section
/-! DEFINITION. Syntax.lean: the commands of the block, one constructor per row of the opcode table, and the names
their operands use. -/

namespace Sys2Proof

/-- The five feed axes (00_scope.md, section 2), in the order of their codes (R200). -/
inductive Axis where
  | x | y | z | w | b
  deriving DecidableEq, Repr

/-- The three link ports (R180). -/
inductive Port where
  | link1 | link2 | link3
  deriving DecidableEq, Repr

/-- The five axes in the order X, Y, Z, W, B (R93). -/
def Axis.all : List Axis := [.x, .y, .z, .w, .b]

/-- The three ports in order. -/
def Port.all : List Port := [.link1, .link2, .link3]

/-- One value per axis. -/
structure PerAxis (α : Type) where
  x : α
  y : α
  z : α
  w : α
  b : α
  deriving DecidableEq, Repr

/-- The value of one axis. -/
def PerAxis.get {α : Type} (v : PerAxis α) : Axis → α
  | .x => v.x
  | .y => v.y
  | .z => v.z
  | .w => v.w
  | .b => v.b

/-- The same values, but for one axis. -/
def PerAxis.set {α : Type} (v : PerAxis α) : Axis → α → PerAxis α
  | .x, t => { v with x := t }
  | .y, t => { v with y := t }
  | .z, t => { v with z := t }
  | .w, t => { v with w := t }
  | .b, t => { v with b := t }

/-- The values a function gives. -/
def PerAxis.ofFn {α : Type} (f : Axis → α) : PerAxis α := ⟨f .x, f .y, f .z, f .w, f .b⟩

/-- One value for all axes. -/
def PerAxis.const {α : Type} (t : α) : PerAxis α := ⟨t, t, t, t, t⟩

/-- The values in the order X to B. -/
def PerAxis.toList {α : Type} (v : PerAxis α) : List α := [v.x, v.y, v.z, v.w, v.b]

/-- One value per port. -/
structure PerPort (α : Type) where
  link1 : α
  link2 : α
  link3 : α
  deriving DecidableEq, Repr

/-- The value of one port. -/
def PerPort.get {α : Type} (v : PerPort α) : Port → α
  | .link1 => v.link1
  | .link2 => v.link2
  | .link3 => v.link3

/-- The same values, but for one port. -/
def PerPort.set {α : Type} (v : PerPort α) : Port → α → PerPort α
  | .link1, t => { v with link1 := t }
  | .link2, t => { v with link2 := t }
  | .link3, t => { v with link3 := t }

/-- One value for all ports. -/
def PerPort.const {α : Type} (t : α) : PerPort α := ⟨t, t, t⟩

/-- The two switches of a clamp (section 7.1). -/
inductive ClampSwitch where
  | engaged | released
  deriving DecidableEq, Repr

/-- The four gear end switches (R141). -/
inductive GearSwitch where
  | a1 | a2 | b1 | b2
  deriving DecidableEq, Repr

/-- The input levels of the module: debounced for the switch inputs (R195), filtered for the chain (R173), direct for the
probe (R65) and the encoder channels (R69). -/
structure Inputs where
  /-- engaged switch of each clamp -/
  clampEngaged : PerAxis Bool
  /-- released switch of each clamp -/
  clampReleased : PerAxis Bool
  gearA1 : Bool
  gearA2 : Bool
  gearB1 : Bool
  gearB2 : Bool
  /-- hydraulic pressure switch -/
  hydPressure : Bool
  /-- through-spindle coolant pressure switch -/
  coolantPressure : Bool
  /-- coolant low-level switch -/
  lowLevel : Bool
  /-- home switch of each axis -/
  home : PerAxis Bool
  /-- the pendant's enabling switch -/
  enabling : Bool
  /-- the wired hold input -/
  panelHold : Bool
  /-- drive-ready signal of each axis drive -/
  driveReady : PerAxis Bool
  /-- drive-ready signal of the spindle drive -/
  spindleReady : Bool
  /-- the filtered emergency-stop chain -/
  chainClosed : Bool
  /-- the probe input -/
  probe : Bool
  /-- encoder channel A of each axis -/
  encoderA : PerAxis Bool
  /-- encoder channel B of each axis -/
  encoderB : PerAxis Bool
  deriving DecidableEq, Repr

/-- What happens at a switch input (R195): its raw level changes, or the raw level has stood for the debounce time that began with its
last change. -/
inductive SwitchEdge where
  | raw (active : Bool)
  | stood
  deriving DecidableEq, Repr

/-- What happens at a port's select (R182): it rises, it falls, or it has stood high for the break time that began with its rise. -/
inductive SelectEdge where
  | rises | falls | stood
  deriving DecidableEq, Repr

/-- An edge of select, or the end of the break time, at a port. -/
structure SelectEvent where
  port : Port
  edge : SelectEdge
  deriving DecidableEq, Repr

/-- What a master clocks in after the command byte (R180): whole bytes, then the bits of a byte it has begun. A complete frame is the
length byte N and N parameter bytes, with no bits after them. -/
structure Clocked where
  /-- the bytes after the command byte, the length byte first -/
  bytes : List Byte
  /-- the bits of a byte in progress, the most significant first -/
  bits : List Bool
  deriving DecidableEq, Repr

/-- How the writing of the image ends (R198). -/
inductive StoreOutcome where
  /-- the memory acknowledged every transfer and the read-back matches -/
  | ok
  /-- the store failed; `landed` is what the memory then holds from address 0 on -/
  | failed (landed : List Byte)
  deriving DecidableEq, Repr

/-- The commands: one constructor per row of the opcode table, in the table's order. -/
inductive Instr where
  /-- RESET_INPUT (R192): a low pulse of `width` ns, the raw input levels at that moment (R195), and, where it cuts a STORE, what
  the serial memory then holds from address 0 on (R198). -/
  | resetInput (width : Nat) (raw : Inputs) (landed : List Byte)
  /-- START_UP_LOAD_END (R193): the read ended; `acked` when the memory acknowledged every transfer. -/
  | startUpLoadEnd (acked : Bool)
  /-- CHAIN_OPENS (R173) -/
  | chainOpens
  /-- CHAIN_CLOSES (R174) -/
  | chainCloses
  /-- MOTION_PERIOD (R55) -/
  | motionPeriod
  /-- ENCODER_COUNT (R69): the new levels of the two channels of an axis. -/
  | encoderCount (a : Axis) (chA chB : Bool)
  /-- INDEX_EDGE (R91): a rising edge of an axis's index input. -/
  | indexEdge (a : Axis)
  /-- HOME_SWITCH_CHANGE (R90, R195) -/
  | homeSwitchChange (a : Axis) (e : SwitchEdge)
  /-- PROBE_EDGE (R65): the new level of the probe input. -/
  | probeEdge (active : Bool)
  /-- AXIS_DRIVE_READY_DROP (R70, R195) -/
  | axisDriveReadyDrop (a : Axis) (e : SwitchEdge)
  /-- CLAMP_SWITCH_CHANGE (R130, R195): one switch of a clamp. -/
  | clampSwitchChange (a : Axis) (which : ClampSwitch) (e : SwitchEdge)
  /-- CLAMP_RELEASE_TIMER_EXPIRY (R128) -/
  | clampReleaseTimerExpiry (a : Axis)
  /-- CLAMP_ENGAGE_TIMER_EXPIRY (R129) -/
  | clampEngageTimerExpiry (a : Axis)
  /-- HYD_PRESSURE_SWITCH_CHANGE (R122, R195) -/
  | hydPressureSwitchChange (e : SwitchEdge)
  /-- HYD_START_TIMER_EXPIRY (R122) -/
  | hydStartTimerExpiry
  /-- HYD_DIP_TIMER_EXPIRY (R123) -/
  | hydDipTimerExpiry
  /-- HYD_RUNON_TIMER_EXPIRY (R123) -/
  | hydRunonTimerExpiry
  /-- HAND_RECLAMP_TIMER_EXPIRY (R118) -/
  | handReclampTimerExpiry (a : Axis)
  /-- ENABLING_SWITCH_DROP (R114, R195) -/
  | enablingSwitchDrop (e : SwitchEdge)
  /-- PANEL_HOLD_INPUT_CHANGE (R176, R195) -/
  | panelHoldInputChange (e : SwitchEdge)
  /-- DWELL_TIMER_EXPIRY (R35) -/
  | dwellTimerExpiry (p : Port)
  /-- WAIT_TIMER_EXPIRY (R39) -/
  | waitTimerExpiry (p : Port)
  /-- SPINDLE_ENCODER_EDGE (R138): a rising edge of channel A at time `t` in microseconds. -/
  | spindleEncoderEdge (t : Nat)
  /-- TACH_WINDOW_LIMIT_EXPIRY (R138) -/
  | tachWindowLimitExpiry
  /-- TACH_GATE_END (R139) -/
  | tachGateEnd
  /-- STANDSTILL_TIMER_EXPIRY (R140) -/
  | standstillTimerExpiry
  /-- AT_SPEED_TIMER_EXPIRY (R146) -/
  | atSpeedTimerExpiry
  /-- SPINDLE_STOP_TIMER_EXPIRY (R150) -/
  | spindleStopTimerExpiry
  /-- SHIFT_STAGE_TIMER_EXPIRY (R153) -/
  | shiftStageTimerExpiry
  /-- WIGGLE_HALF_TIMER_EXPIRY (R152) -/
  | wiggleHalfTimerExpiry
  /-- GEAR_SWITCH_CHANGE (R152, R195): one gear switch. -/
  | gearSwitchChange (g : GearSwitch) (e : SwitchEdge)
  /-- SPINDLE_DRIVE_READY_DROP (R157, R195) -/
  | spindleDriveReadyDrop (e : SwitchEdge)
  /-- COOLANT_PRESSURE_SWITCH_CHANGE (R165, R195) -/
  | coolantPressureSwitchChange (e : SwitchEdge)
  /-- TSC_PRIME_TIMER_EXPIRY (R165) -/
  | tscPrimeTimerExpiry
  /-- TSC_LOSS_TIMER_EXPIRY (R165) -/
  | tscLossTimerExpiry
  /-- LOW_LEVEL_SWITCH_CHANGE (R166, R195) -/
  | lowLevelSwitchChange (e : SwitchEdge)
  /-- BREAK (R182): select rises, falls, or has been high for 2 ms, which is the break (log entry 6). -/
  | linkBreak (e : SelectEvent)
  /-- SILENCE_TIMER_EXPIRY (R188) -/
  | silenceTimerExpiry (p : Port)
  /-- CONFIG_STORE_END (R198) -/
  | configStoreEnd (outcome : StoreOutcome)
  /-- CONFIG_RELOAD_END (R199): the read ended; `acked` when the memory acknowledged every transfer. -/
  | configReloadEnd (acked : Bool)
  /-- UNKNOWN_COMMAND (R184): a frame whose command byte is `code`. -/
  | unknownCommand (p : Port) (code : Byte) (c : Clocked)
  /-- STATUS (R190) -/
  | status (p : Port) (c : Clocked)
  /-- IDENTIFY (R191) -/
  | identify (p : Port) (c : Clocked)
  /-- READ EVENTS (R186) -/
  | readEvents (p : Port) (c : Clocked)
  /-- REJOIN (R189) -/
  | rejoin (p : Port) (c : Clocked)
  /-- MACHINE RESET (R175) -/
  | machineReset (p : Port) (c : Clocked)
  /-- HOLD (R177) -/
  | hold (p : Port) (c : Clocked)
  /-- RELEASE HOLD (R177) -/
  | releaseHold (p : Port) (c : Clocked)
  /-- SET OVERRIDE (R179) -/
  | setOverride (p : Port) (c : Clocked)
  /-- CLAIM (R3) -/
  | claim (p : Port) (c : Clocked)
  /-- RELEASE (R6) -/
  | release (p : Port) (c : Clocked)
  /-- HAND OVER (R9) -/
  | handOver (p : Port) (c : Clocked)
  /-- READ CLAIMS (R11) -/
  | readClaims (p : Port) (c : Clocked)
  /-- QUEUE ENTRY (R20) -/
  | queueEntry (p : Port) (c : Clocked)
  /-- FLUSH (R43) -/
  | flush (p : Port) (c : Clocked)
  /-- CONTINUE (R42) -/
  | continueQueue (p : Port) (c : Clocked)
  /-- READ QUEUE (R47) -/
  | readQueue (p : Port) (c : Clocked)
  /-- READ PROBE (R48) -/
  | readProbe (p : Port) (c : Clocked)
  /-- READ POSITIONS (R93) -/
  | readPositions (p : Port) (c : Clocked)
  /-- PRESET (R88) -/
  | preset (p : Port) (c : Clocked)
  /-- COMP WINDOW (R82) -/
  | compWindow (p : Port) (c : Clocked)
  /-- COMP DATA (R83) -/
  | compData (p : Port) (c : Clocked)
  /-- COMP ENABLE (R85) -/
  | compEnable (p : Port) (c : Clocked)
  /-- COMP DISABLE (R85) -/
  | compDisable (p : Port) (c : Clocked)
  /-- READ COMP (R84) -/
  | readComp (p : Port) (c : Clocked)
  /-- ZONE SET (R101) -/
  | zoneSet (p : Port) (c : Clocked)
  /-- ZONE CLEAR (R103) -/
  | zoneClear (p : Port) (c : Clocked)
  /-- ZONE PURGE (R104) -/
  | zonePurge (p : Port) (c : Clocked)
  /-- READ ZONES (R105) -/
  | readZones (p : Port) (c : Clocked)
  /-- HANDWHEEL (R110) -/
  | handwheel (p : Port) (c : Clocked)
  /-- CLAMP (R133) -/
  | clamp (p : Port) (c : Clocked)
  /-- SPINDLE (R148) -/
  | spindle (p : Port) (c : Clocked)
  /-- SHIFT (R156) -/
  | shift (p : Port) (c : Clocked)
  /-- COOLANT (R168) -/
  | coolant (p : Port) (c : Clocked)
  /-- CONFIG WRITE (R196) -/
  | configWrite (p : Port) (c : Clocked)
  /-- CONFIG READ (R197) -/
  | configRead (p : Port) (c : Clocked)
  /-- CONFIG STORE (R198) -/
  | configStore (p : Port) (c : Clocked)
  /-- CONFIG RELOAD (R199) -/
  | configReload (p : Port) (c : Clocked)
  deriving DecidableEq, Repr

end Sys2Proof
end

