-- ==== Sys2Proof/Config.lean ====
section
/-! DEFINITION. Config.lean: what an implementation fixes and the values the manual leaves open. An opaque constant has no
body: no proof can see its value. -/

namespace Sys2Proof

/-- The orders in which three ports can be taken one after the other. -/
inductive PortOrder where
  | o123 | o132 | o213 | o231 | o312 | o321
  deriving DecidableEq, Repr, Inhabited

/-- The ports in that order. -/
def PortOrder.ports : PortOrder → List Port
  | .o123 => [.link1, .link2, .link3]
  | .o132 => [.link1, .link3, .link2]
  | .o213 => [.link2, .link1, .link3]
  | .o231 => [.link2, .link3, .link1]
  | .o312 => [.link3, .link1, .link2]
  | .o321 => [.link3, .link2, .link1]

/-- FREE VALUE (log entry 8). Whether the n-th reset pulse of 5 to 20 microseconds resets the module: R192 does not fix it. -/
opaque Config.resetTaken : Nat → Bool

/-- FREE VALUE (log entry 12). The order in which PROBE heads that reach step 11 in the same instant are judged: R64 does
not fix it. -/
opaque Config.judgeOrder : Nat → PortOrder

/-- FREE VALUE (log entry 17). The speed read from a window of 0 microseconds: R138's quotient has no value there. -/
opaque Config.speedOfEmptyWindow : Nat → Nat

end Sys2Proof
end

