-- ==== Sys2Proof/WellFormed.lean ====
section
/-! DEFINITION. WellFormed.lean: which commands the module's terminals can give. The machine has a meaning for every
command, well-formed or not; these checks say which operands a sender can really produce. -/

namespace Sys2Proof

/-- The command bytes of the catalogue (section 13.2). -/
def catalogueCodes : List Nat :=
  [1, 2, 3, 4, 16, 17, 18, 19, 32, 33, 34, 35, 48, 49, 50, 51, 52, 64, 65, 66, 67, 68, 69, 70, 80, 81, 82, 83, 96, 112, 113, 114,
   115, 128, 129, 130, 131]

/-- A byte in progress has at most seven bits: eight make a whole byte (R180). -/
def Clocked.wellFormed (c : Clocked) : Bool := decide (c.bits.length < 8)

/-- A complete frame (R180): the length byte, then as many parameter bytes as it says, or none where it is above 120. -/
def Clocked.complete (c : Clocked) : Bool :=
  match c.bytes with
  | [] => false
  | n :: ps => c.bits.isEmpty && decide (ps.length = if n.toNat ≤ 120 then n.toNat else 0)

/-- The longest image has 1,444 bytes (section 13.5): no more of it can have reached the memory. -/
def landedWellFormed (landed : List Byte) : Bool := decide (landed.length ≤ 1444)

/-- The well-formed commands. -/
def Instr.wellFormed : Instr → Bool
  | .resetInput _ _ landed => landedWellFormed landed
  | .startUpLoadEnd _ => true
  | .chainOpens => true
  | .chainCloses => true
  | .motionPeriod => true
  | .encoderCount _ _ _ => true
  | .indexEdge _ => true
  | .homeSwitchChange _ _ => true
  | .probeEdge _ => true
  | .axisDriveReadyDrop _ _ => true
  | .clampSwitchChange _ _ _ => true
  | .clampReleaseTimerExpiry _ => true
  | .clampEngageTimerExpiry _ => true
  | .hydPressureSwitchChange _ => true
  | .hydStartTimerExpiry => true
  | .hydDipTimerExpiry => true
  | .hydRunonTimerExpiry => true
  | .handReclampTimerExpiry _ => true
  | .enablingSwitchDrop _ => true
  | .panelHoldInputChange _ => true
  | .dwellTimerExpiry _ => true
  | .waitTimerExpiry _ => true
  | .spindleEncoderEdge _ => true
  | .tachWindowLimitExpiry => true
  | .tachGateEnd => true
  | .standstillTimerExpiry => true
  | .atSpeedTimerExpiry => true
  | .spindleStopTimerExpiry => true
  | .shiftStageTimerExpiry => true
  | .wiggleHalfTimerExpiry => true
  | .gearSwitchChange _ _ => true
  | .spindleDriveReadyDrop _ => true
  | .coolantPressureSwitchChange _ => true
  | .tscPrimeTimerExpiry => true
  | .tscLossTimerExpiry => true
  | .lowLevelSwitchChange _ => true
  | .linkBreak _ => true
  | .silenceTimerExpiry _ => true
  | .configStoreEnd .ok => true
  | .configStoreEnd (.failed landed) => landedWellFormed landed
  | .configReloadEnd _ => true
  | .unknownCommand _ code c => c.wellFormed && !catalogueCodes.contains code.toNat
  | .status _ c => c.wellFormed
  | .identify _ c => c.wellFormed
  | .readEvents _ c => c.wellFormed
  | .rejoin _ c => c.wellFormed
  | .machineReset _ c => c.wellFormed
  | .hold _ c => c.wellFormed
  | .releaseHold _ c => c.wellFormed
  | .setOverride _ c => c.wellFormed
  | .claim _ c => c.wellFormed
  | .release _ c => c.wellFormed
  | .handOver _ c => c.wellFormed
  | .readClaims _ c => c.wellFormed
  | .queueEntry _ c => c.wellFormed
  | .flush _ c => c.wellFormed
  | .continueQueue _ c => c.wellFormed
  | .readQueue _ c => c.wellFormed
  | .readProbe _ c => c.wellFormed
  | .readPositions _ c => c.wellFormed
  | .preset _ c => c.wellFormed
  | .compWindow _ c => c.wellFormed
  | .compData _ c => c.wellFormed
  | .compEnable _ c => c.wellFormed
  | .compDisable _ c => c.wellFormed
  | .readComp _ c => c.wellFormed
  | .zoneSet _ c => c.wellFormed
  | .zoneClear _ c => c.wellFormed
  | .zonePurge _ c => c.wellFormed
  | .readZones _ c => c.wellFormed
  | .handwheel _ c => c.wellFormed
  | .clamp _ c => c.wellFormed
  | .spindle _ c => c.wellFormed
  | .shift _ c => c.wellFormed
  | .coolant _ c => c.wellFormed
  | .configWrite _ c => c.wellFormed
  | .configRead _ c => c.wellFormed
  | .configStore _ c => c.wellFormed
  | .configReload _ c => c.wellFormed

end Sys2Proof
end

