-- ==== Sys2Proof/Decode.lean ====
section
/-! DEFINITION. Decode.lean: the table's rows give no bits, so no word spells a command. -/

namespace Sys2Proof

/-- No row of the opcode table gives bits: a word spells no command. -/
def decodeTableWord (_nbits _w : Nat) : Option Instr := none

end Sys2Proof
end

