-- ==== Sys2Proof/Machine/State.lean ====
section
/-! DEFINITION. Machine/State.lean: the state of the module as plain data, with its values after the reset input. -/

namespace Sys2Proof.Machine

/-- A timer: the milliseconds left, or stopped. -/
abbrev Timer := Option Nat

/-! ### Machine state, holds and overrides (10_machine_state_emergency_stop_and_feed_hold.md) -/

/-- The machine state (R172). -/
inductive MachineState where
  | start | estop | resetWait | run
  deriving DecidableEq, Repr

/-- The hold-source set (R176). -/
structure HoldSet where
  links : PerPort Bool
  panel : Bool
  deriving DecidableEq, Repr

/-- The three overrides in per cent (R178). -/
structure Overrides where
  feed : Nat
  rapid : Nat
  spindle : Nat
  deriving DecidableEq, Repr

/-! ### Resources and claims (01_resources_and_claims.md) -/

/-- The seven resources (section 1.1). -/
inductive Resource where
  | axis (a : Axis)
  | spindle
  | coolant
  deriving DecidableEq, Repr

/-- The state of a row, with its holder or orphaned-from port (R1). -/
inductive RowState where
  | free
  | held (holder : Port)
  | orphaned (lost : Port)
  deriving DecidableEq, Repr

/-- One row of the claim table (R1). -/
structure ClaimRow where
  state : RowState
  /-- the first waiter first -/
  waiting : List Port
  deriving DecidableEq, Repr

/-- The claim table (R1). -/
structure Claims where
  axes : PerAxis ClaimRow
  spindle : ClaimRow
  coolant : ClaimRow
  /-- R15: the first step of the orphaned spindle's stop has been taken (log entry 25) -/
  spindleStopSent : Bool
  deriving DecidableEq, Repr

/-! ### Program queues (02_program_queues.md) -/

/-- One (axis, delta) pair of a move (R18). -/
structure Pair where
  axis : Axis
  delta : Int
  deriving DecidableEq, Repr

/-- The clamp policy of a move (R18). -/
inductive Policy where
  | auto | noClamp
  deriving DecidableEq, Repr

/-- A programmed direction (R147). -/
inductive SpinDir where
  | cw | ccw
  deriving DecidableEq, Repr

/-- The coolant mode (R162). -/
inductive CoolantMode where
  | off | flood | through | both
  deriving DecidableEq, Repr

/-- The action of a CLAMP command or entry (R18, R133). -/
inductive ClampAction where
  | engage | release
  deriving DecidableEq, Repr

/-- The condition of a WAIT entry (R40). -/
inductive WaitCond where
  | atSpeed | spindleStopped | coolantReady
  deriving DecidableEq, Repr

/-- The kinds of entry with their fields (R18). -/
inductive EntryKind where
  | feed (pairs : List Pair) (len : Nat) (feedRate : Nat) (policy : Policy)
  | rapid (pairs : List Pair) (len : Nat) (policy : Policy)
  | probe (pairs : List Pair) (len : Nat) (feedRate : Nat) (policy : Policy)
  | reference (axis : Axis)
  | dwell (time : Nat)
  | spindle (speed : Nat) (dir : SpinDir)
  | coolant (mode : CoolantMode)
  | clamp (axes : List Axis) (action : ClampAction)
  | wait (cond : WaitCond) (timeout : Nat)
  deriving DecidableEq, Repr

/-- An entry of a program queue (R18). -/
structure Entry where
  tag : BitVec 16
  kind : EntryKind
  deriving DecidableEq, Repr

/-- The entry error codes (section 11.5). -/
inductive EntryError where
  | notHeld | limit | zone | clamped | notReferenced | state | axis | hydraulic | gear | coolant | timeout | noTrigger
  | probeActive | refFail | flushed | estop
  deriving DecidableEq, Repr

/-- The steps at which a judgement can wait (R47). -/
inductive WaitStep where
  | run | hand | takeUp | clamps | hold | probeLatch | standing
  deriving DecidableEq, Repr

/-- The sub-state of a head (R26). `starting none` has not been judged yet; `starting (some w)` waited at `w` when last judged. -/
inductive HeadState where
  | starting (waited : Option WaitStep)
  | executing
  | failed (code : EntryError)
  deriving DecidableEq, Repr

/-- Why a queue is STOPPING, if it is (R43, R46). -/
inductive StopCause where
  | running | flushed | portLost
  deriving DecidableEq, Repr

/-- A program queue (R25). The head's sub-state counts only while there is an entry. -/
structure Queue where
  /-- the head first -/
  entries : List Entry
  head : HeadState
  stop : StopCause
  /-- the DWELL or WAIT timer of the head (R35, R39) -/
  timer : Timer
  deriving DecidableEq, Repr

/-- The four states of a queue (R25). -/
inductive QueueState where
  | empty | running | stalled | stopping
  deriving DecidableEq, Repr

/-- A port's probe record (R48). -/
structure ProbeRecord where
  valid : Bool
  tag : BitVec 16
  positions : PerAxis Int
  deriving DecidableEq, Repr

/-! ### Path generator (03_path_generation.md) -/

/-- One axis of a move record (R49). -/
structure MoveAxis where
  axis : Axis
  delta : Int
  start : Int
  rate : Nat
  accel : Nat
  deriving DecidableEq, Repr

/-- The kind of a move (R49). -/
inductive MoveKind where
  | feed | rapid | probe | reference
  deriving DecidableEq, Repr

/-- A closed interval of positions (R96). -/
structure Interval where
  lo : Int
  hi : Int
  deriving DecidableEq, Repr

/-- A move record (R49); its owner is the port it is kept for. -/
structure Move where
  tag : BitVec 16
  kind : MoveKind
  axes : List MoveAxis
  /-- path length L in units -/
  len : Nat
  /-- path acceleration a -/
  accel : Nat
  /-- highest path advance every axis can follow -/
  vAxes : Nat
  /-- programmed feed F -/
  feedRate : Nat
  /-- path position s in sub-units -/
  s : Nat
  /-- path advance v of the last period -/
  v : Nat
  /-- braking latch -/
  braking : Bool
  /-- stop request -/
  stop : Bool
  /-- seen mark -/
  seen : Bool
  /-- the box the zone table keeps (R98); none for a REFERENCE move -/
  box : Option (PerAxis Interval)
  deriving DecidableEq, Repr

/-- The probe latch (R64). -/
structure ProbeLatch where
  /-- the owning port and its entry's tag, or FREE -/
  owner : Option (Port × BitVec 16)
  /-- the waiting order, first one first -/
  waiting : List Port
  deriving DecidableEq, Repr

/-! ### Axis units (04_axis_positions_compensation_and_step_output.md) -/

/-- The causes of an axis fault (R74). -/
inductive AxisCause where
  | following | encoder | drive | clamp
  deriving DecidableEq, Repr

/-- The phases of a reference search (R90). -/
inductive SearchPhase where
  | none | search | index | captured
  deriving DecidableEq, Repr

/-- The method of a compensation write window (R82). -/
inductive WindowMethod where
  | wrap | stop
  deriving DecidableEq, Repr

/-- A compensation write window (R67); an exhausted pointer is none. -/
structure CompWindow where
  first : Nat
  last : Nat
  pointer : Option Nat
  method : WindowMethod
  deriving DecidableEq, Repr

/-- An axis record (R67). k is O - T and E is O - backlog. -/
structure AxisUnit where
  /-- T, commanded position -/
  cmd : Int
  /-- O, output position -/
  out : Int
  /-- M, measured position -/
  meas : Int
  /-- step backlog -/
  backlog : Int
  referenced : Bool
  /-- fault state; none is NONE -/
  fault : Option AxisCause
  compEnabled : Bool
  window : CompWindow
  /-- running take-up with its target k -/
  takeUp : Option Int
  search : SearchPhase
  /-- time of the last illegal transition, in microseconds of `now` -/
  lastIllegal : Option Nat
  /-- direction output (R72): true toward higher positions -/
  stepForward : Bool
  /-- pulses emitted in the last period (R72) -/
  stepPulses : Nat
  deriving DecidableEq, Repr

/-! ### Zone table (05_travel_limits_and_keep_out_zones.md) -/

/-- A keep-out box: an interval on each masked axis (R96). -/
abbrev Zone := PerAxis (Option Interval)

/-- A slot in use (R96). -/
structure Slot where
  pinned : Bool
  zone : Zone
  deriving DecidableEq, Repr

/-! ### Hand follower (06_handwheel_jogging.md) -/

/-- The follower's state of one axis (R109). -/
structure Hand where
  pending : Int
  handReleased : Bool
  idle : Timer
  deriving DecidableEq, Repr

/-! ### Hydraulic unit and clamps (07_hydraulic_unit_and_axis_clamps.md) -/

/-- The states of the hydraulic unit (R121). -/
inductive HydState where
  | off | starting | up | lost
  deriving DecidableEq, Repr

/-- The hydraulic unit (R121). -/
structure Hyd where
  state : HydState
  pump : Bool
  startTimer : Timer
  dipTimer : Timer
  runonTimer : Timer
  deriving DecidableEq, Repr

/-- The causes of a clamp fault (R126). -/
inductive ClampCause where
  | releaseTimeout | engageTimeout | switch
  deriving DecidableEq, Repr

/-- The states of a clamp (R126). -/
inductive ClampState where
  | engaged | releaseWait | releasing | released | engaging
  | fault (cause : ClampCause)
  deriving DecidableEq, Repr

/-- A clamp record (R126). -/
structure Clamp where
  state : ClampState
  valve : Bool
  auto : Bool
  timer : Timer
  deriving DecidableEq, Repr

/-! ### Spindle unit (08_spindle_and_gearbox.md) -/

/-- The four gear ranges (R141); UNKNOWN is none. -/
inductive GearRange where
  | i | ii | iii | iv
  deriving DecidableEq, Repr

/-- The position a gear cylinder reads (R141); no position is none. -/
inductive CylPos where
  | one | two
  deriving DecidableEq, Repr

/-- The stages of a shift (R147). -/
inductive ShiftStage where
  | halt | hyd | cylA | cylB
  deriving DecidableEq, Repr

/-- The causes of a spindle fault (R147). -/
inductive GearCause where
  | stopTimeout | shiftTimeout | rangeLost | drive | hydraulic
  deriving DecidableEq, Repr

/-- The states of the spindle unit (R147). -/
inductive SpindleState where
  | stopped | running | stopping
  | shifting (target : GearRange) (stage : ShiftStage)
  | fault (cause : GearCause)
  deriving DecidableEq, Repr

/-- The direction of a relay (R145); none or off is `none`. -/
inductive DriveDir where
  | fwd | rev
  deriving DecidableEq, Repr

/-- The four gear valve outputs (R141). -/
structure GearValves where
  a1 : Bool
  a2 : Bool
  b1 : Bool
  b2 : Bool
  deriving DecidableEq, Repr

/-- The tachometer (R138, R139). -/
inductive TachMode where
  /-- PERIOD with its window: closed, or open with its opening time and edge count -/
  | period (window : Option (Nat × Nat))
  /-- COUNT with the gate's edge count -/
  | count (edges : Nat)
  deriving DecidableEq, Repr

/-- The spindle record (R147) with the standstill watch (R140) and the tachometer (R138). -/
structure Spindle where
  state : SpindleState
  /-- target speed S -/
  speed : Nat
  dir : SpinDir
  /-- effective speed S' -/
  effective : Nat
  /-- engaged range; none is UNKNOWN -/
  engaged : Option GearRange
  cmdCode : Nat
  cmdDir : Option DriveDir
  outCode : Nat
  relay : Option DriveDir
  valves : GearValves
  atSpeed : Bool
  atSpeedTimer : Timer
  stopTimer : Timer
  stageTimer : Timer
  halfTimer : Timer
  /-- settled as stage HYD ends: after CYL_A cylinder B must move (R151, R152) -/
  moveB : Bool
  standstill : Bool
  standstillTimer : Timer
  tach : TachMode
  /-- measured speed in 0.1 rpm -/
  measured : Nat
  deriving DecidableEq, Repr

/-! ### Coolant unit (09_coolant.md) -/

/-- The causes of a coolant fault (R162). -/
inductive CoolantCause where
  | primeTimeout | pressureLost | lowLevel
  deriving DecidableEq, Repr

/-- The states of the flood element (R162). -/
inductive FloodState where
  | off | on
  | fault (cause : CoolantCause)
  deriving DecidableEq, Repr

/-- The states of the through element (R162). -/
inductive ThroughState where
  | off | waitSpindle | priming | on
  | fault (cause : CoolantCause)
  deriving DecidableEq, Repr

/-- The coolant record (R162) with the two pump outputs. -/
structure Coolant where
  mode : CoolantMode
  flood : FloodState
  through : ThroughState
  floodPump : Bool
  throughPump : Bool
  primeTimer : Timer
  lossTimer : Timer
  deriving DecidableEq, Repr

/-! ### Link ports (11_link_ports.md) -/

/-- The event records (section 11.5). -/
inductive Event where
  | entryDone (tag : BitVec 16) (triggered : Bool)
  | entryFailed (tag : BitVec 16) (code : EntryError)
  | queueFlushed (count : Nat)
  | claimGranted (r : Resource)
  | axisFault (a : Axis) (cause : AxisCause)
  | clampFault (a : Axis) (cause : ClampCause)
  | hydraulicLost
  | gearFault (cause : GearCause)
  | coolantFault (cause : CoolantCause)
  | handLimited (a : Axis)
  | machineState (m : MachineState)
  | configDone (ok : Bool)
  | linkLost
  deriving DecidableEq, Repr

/-- The result codes (section 11.5). -/
inductive ResultCode where
  | ok | waiting | held | notHeld | busy | full | badParam | lost | notReady | limit | zone | clamped | notReferenced | state
  | hydraulic | unknown
  deriving DecidableEq, Repr

/-- The framing phases with the bytes taken so far and the reply bytes still to be clocked out (R180). -/
inductive Phase where
  | idle
  | length (cmd : Byte)
  | parameters (cmd : Byte) (n : Byte) (got : List Byte)
  | reply (left : List Byte)
  | spent
  deriving DecidableEq, Repr

/-- The states of a port (R188). -/
inductive PortState where
  | active | lost
  deriving DecidableEq, Repr

/-- A link port (R180, R182, R183, R185, R187, R188). -/
structure LinkPort where
  phase : Phase
  /-- bits of a byte in progress -/
  bits : List Bool
  /-- select is high (R182) -/
  select : Bool
  /-- the break time, which runs from a rise of select (R182) -/
  breakTimer : Timer
  /-- last-command-cut flag -/
  cut : Bool
  /-- event queue, oldest first -/
  events : List Event
  eventsLost : Bool
  state : PortState
  /-- silence timer -/
  silence : Timer
  deriving DecidableEq, Repr

/-- The commands of the catalogue (section 11.7). -/
inductive Cmd where
  | status | identify | readEvents | rejoin | machineReset | hold | releaseHold | setOverride | claim | release | handOver
  | readClaims | queueEntry | flush | continueQueue | readQueue | readProbe | readPositions | preset | compWindow | compData
  | compEnable | compDisable | readComp | zoneSet | zoneClear | zonePurge | readZones | handwheel | clamp | spindle | shift
  | coolant | configWrite | configRead | configStore | configReload
  deriving DecidableEq, Repr

/-! ### Configuration store (12_stored_configuration_and_start_up.md) -/

/-- The axis group of one axis (R194, numbers 1 to 15). -/
structure AxisParams where
  softMin : Int
  softMax : Int
  rateMax : Int
  accel : Int
  handRate : Int
  feLimit : Int
  refDir : Int
  refFeed : Int
  refPos : Int
  refSearchMax : Int
  clampReleaseLimit : Int
  clampEngageLimit : Int
  compOrigin : Int
  compSpacing : Int
  handReclamp : Int
  deriving DecidableEq, Repr

/-- The DEBOUNCE values of the seven groups (R194, R195). -/
structure DebounceTimes where
  clamp : Int
  gear : Int
  hyd : Int
  coolant : Int
  home : Int
  panel : Int
  drive : Int
  deriving DecidableEq, Repr

/-- One row of the range table (R142). -/
structure RangeRow where
  min : Int
  max : Int
  num : Int
  den : Int
  deriving DecidableEq, Repr

/-- The spindle parameters beside the range table (R161). -/
structure SpindleParams where
  motorMax : Int
  ramp : Int
  wiggleCode : Int
  wiggleHalf : Int
  shiftLimit : Int
  stopLimit : Int
  atsAbs : Int
  atsPct : Int
  atsDwell : Int
  deriving DecidableEq, Repr

/-- The working configuration (R194): the parameters, the pinned list (R106) and the compensation tables (R80). -/
structure WorkingConfig where
  axes : PerAxis AxisParams
  reachMin : Int
  reachMax : Int
  debounce : DebounceTimes
  hydStartLimit : Int
  hydDip : Int
  hydRunon : Int
  silence : PerPort Int
  rangeI : RangeRow
  rangeII : RangeRow
  rangeIII : RangeRow
  rangeIV : RangeRow
  spindle : SpindleParams
  tscMinSpeed : Int
  tscPrimeLimit : Int
  tscLoss : Int
  pinned : List Zone
  comp : PerAxis (List Int)
  deriving DecidableEq, Repr

/-- The store's operation in progress (R198, R199). -/
inductive StoreOp where
  | idle
  /-- the requesting port and the image being written -/
  | storing (p : Port) (image : List Byte)
  /-- the requesting port, and whether the machine has been in RUN since -/
  | reloading (p : Port) (ranSince : Bool)
  deriving DecidableEq, Repr

/-- The configuration store's flags (R192, R194, R198). The store-in-progress flag is set while an operation is in progress. -/
structure ConfigStore where
  defaults : Bool
  op : StoreOp
  deriving DecidableEq, Repr

/-! ### Input conditioner (R195) -/

/-- The switch inputs, which the conditioner debounces (R195). -/
inductive SwitchInput where
  | clamp (a : Axis) (which : ClampSwitch)
  | gear (g : GearSwitch)
  | hydPressure | coolantPressure | lowLevel
  | home (a : Axis)
  | enabling | panelHold
  | driveReady (a : Axis)
  | spindleReady
  deriving DecidableEq, Repr

/-- The debounce timers. A timer runs exactly while the raw level of its input differs from the debounced level in `Inputs`. -/
structure Conditioner where
  clampEngaged : PerAxis Timer
  clampReleased : PerAxis Timer
  gearA1 : Timer
  gearA2 : Timer
  gearB1 : Timer
  gearB2 : Timer
  hydPressure : Timer
  coolantPressure : Timer
  lowLevel : Timer
  home : PerAxis Timer
  enabling : Timer
  panelHold : Timer
  driveReady : PerAxis Timer
  spindleReady : Timer
  deriving DecidableEq, Repr

/-! ### The whole state -/

/-- The state of the module. -/
structure State where
  /-- commands waiting to be taken, first in, first out (the model's own) -/
  pending : List Instr
  /-- a clock in microseconds (the model's own, log entry 3) -/
  now : Nat
  /-- counter of the free values (the model's own, log entry 30) -/
  choices : Nat
  machine : MachineState
  holds : HoldSet
  overrides : Overrides
  inputs : Inputs
  conditioner : Conditioner
  config : WorkingConfig
  store : ConfigStore
  /-- the serial memory -/
  serial : List Host.Cell
  claims : Claims
  queues : PerPort Queue
  /-- planned position of each axis in each port's account; none where the port has none (R22, R24) -/
  planned : PerPort (PerAxis (Option Int))
  moves : PerPort (Option Move)
  latch : ProbeLatch
  probes : PerPort ProbeRecord
  axes : PerAxis AxisUnit
  /-- sixteen slots; none is a free slot -/
  zones : List (Option Slot)
  hands : PerAxis Hand
  hyd : Hyd
  clamps : PerAxis Clamp
  spindle : Spindle
  coolant : Coolant
  ports : PerPort LinkPort
  deriving DecidableEq, Repr

/-- The reasons a step can fault: none. Every row of the table has an effect the spec gives (or finds nothing to act on). -/
inductive Fault where
  deriving DecidableEq, Repr

/-- The reasons a step can be refused. -/
inductive Refusal where
  /-- Raised by exec for a command that has no meaning yet (no arm raises it now); safe. -/
  | notModelled (mnemonic : String)
  deriving DecidableEq, Repr

/-! ### Values after the reset input -/

/-- The factory axis group (R94, R194) for the given limits, rate, acceleration and search direction. -/
def AxisParams.factory (softMin softMax rateMax accel refDir : Int) : AxisParams where
  softMin := softMin
  softMax := softMax
  rateMax := rateMax
  accel := accel
  handRate := 40
  feLimit := 2000
  refDir := refDir
  refFeed := 300000
  refPos := 0
  refSearchMax := 3000000
  clampReleaseLimit := 1500
  clampEngageLimit := 1500
  compOrigin := 0
  compSpacing := 100000
  handReclamp := 2000

/-- The factory configuration (R94, R95, R137, R142, R161, R171, R194). -/
def WorkingConfig.factory : WorkingConfig where
  axes :=
    { x := .factory 0 2500000 200 250000 1
      y := .factory 0 1800000 150 250000 1
      z := .factory 0 1250000 150 250000 1
      w := .factory 0 700000 80 250000 1
      b := .factory (-1000000000) 1000000000 10 50000 0 }
  reachMin := 0
  reachMax := 1800000
  debounce := { clamp := 20, gear := 20, hyd := 20, coolant := 100, home := 20, panel := 20, drive := 20 }
  hydStartLimit := 4000
  hydDip := 300
  hydRunon := 30000
  silence := .const 250
  rangeI := { min := 30, max := 800, num := 75, den := 4 }
  rangeII := { min := 801, max := 2500, num := 6, den := 1 }
  rangeIII := { min := 2501, max := 6000, num := 5, den := 2 }
  rangeIV := { min := 6001, max := 12000, num := 5, den := 4 }
  spindle :=
    { motorMax := 15000, ramp := 44, wiggleCode := 1311, wiggleHalf := 120, shiftLimit := 5000, stopLimit := 20000,
      atsAbs := 20, atsPct := 2, atsDwell := 300 }
  tscMinSpeed := 1000
  tscPrimeLimit := 3000
  tscLoss := 500
  pinned := []
  comp := .const (List.replicate 64 0)

/-- All levels low or inactive and the chain open: the levels State.reset takes (log entry 9). -/
def inactiveInputs : Inputs where
  clampEngaged := .const false
  clampReleased := .const false
  gearA1 := false
  gearA2 := false
  gearB1 := false
  gearB2 := false
  hydPressure := false
  coolantPressure := false
  lowLevel := false
  home := .const false
  enabling := false
  panelHold := false
  driveReady := .const false
  spindleReady := false
  chainClosed := false
  probe := false
  encoderA := .const false
  encoderB := .const false

/-- A claim row after the reset input (R2). -/
def ClaimRow.reset : ClaimRow := { state := .free, waiting := [] }

/-- A program queue after the reset input (R25). -/
def Queue.reset : Queue := { entries := [], head := .starting none, stop := .running, timer := none }

/-- An axis record after the reset input (R67). -/
def AxisUnit.reset : AxisUnit where
  cmd := 0
  out := 0
  meas := 0
  backlog := 0
  referenced := false
  fault := none
  compEnabled := false
  window := { first := 0, last := 63, pointer := some 0, method := .stop }
  takeUp := none
  search := .none
  lastIllegal := none
  stepForward := false
  stepPulses := 0

/-- The spindle record, the standstill watch and the tachometer after the reset input (R138, R140, R147). -/
def Spindle.reset : Spindle where
  state := .stopped
  speed := 0
  dir := .cw
  effective := 0
  engaged := none
  cmdCode := 0
  cmdDir := none
  outCode := 0
  relay := none
  valves := { a1 := false, a2 := false, b1 := false, b2 := false }
  atSpeed := false
  atSpeedTimer := none
  stopTimer := none
  stageTimer := none
  halfTimer := none
  moveB := false
  standstill := false
  standstillTimer := some 200
  tach := .period none
  measured := 0

/-- The coolant record after the reset input (R162). -/
def Coolant.reset : Coolant where
  mode := .off
  flood := .off
  through := .off
  floodPump := false
  throughPump := false
  primeTimer := none
  lossTimer := none

/-- A link port after the reset input (R180, R183, R185, R187, R188), with select low (DESIGN CHOICE, log entry 9). -/
def LinkPort.reset : LinkPort where
  phase := .idle
  bits := []
  select := false
  breakTimer := none
  cut := false
  events := []
  eventsLost := false
  state := .active
  silence := none

/-- No debounce time running: every raw level is its debounced level (R195). -/
def Conditioner.reset : Conditioner where
  clampEngaged := .const none
  clampReleased := .const none
  gearA1 := none
  gearA2 := none
  gearB1 := none
  gearB2 := none
  hydPressure := none
  coolantPressure := none
  lowLevel := none
  home := .const none
  enabling := none
  panelHold := none
  driveReady := .const none
  spindleReady := none

/-- The module right after the reset input (R192), with the levels of `inactiveInputs`, no slot of the zone table in use before the load
ends (R96, log entry 10), and the serial memory listing nothing. -/
def State.reset : State where
  pending := []
  now := 0
  choices := 0
  machine := .start
  holds := { links := .const false, panel := false }
  overrides := { feed := 100, rapid := 100, spindle := 100 }
  inputs := inactiveInputs
  conditioner := .reset
  config := .factory
  store := { defaults := false, op := .idle }
  serial := []
  claims := { axes := .const .reset, spindle := .reset, coolant := .reset, spindleStopSent := false }
  queues := .const .reset
  planned := .const (.const none)
  moves := .const none
  latch := { owner := none, waiting := [] }
  probes := .const { valid := false, tag := 0, positions := .const 0 }
  axes := .const .reset
  zones := List.replicate 16 none
  hands := .const { pending := 0, handReleased := false, idle := none }
  hyd := { state := .off, pump := false, startTimer := none, dipTimer := none, runonTimer := none }
  clamps := .const { state := .engaging, valve := false, auto := false, timer := none }
  spindle := .reset
  coolant := .reset
  ports := .const .reset

end Sys2Proof.Machine
end

