-- ==== Sys2Proof/Machine/Ops.lean ====
section
/-! DEFINITION. Machine/Ops.lean: named reads and updates of the state, the serial memory, the raising of event records
and the moving of an axis's coordinates. -/

namespace Sys2Proof.Machine

/-! ### Updates of one part -/

/-- Change one axis record. -/
def State.updAxis (s : State) (a : Axis) (f : AxisUnit → AxisUnit) : State :=
  { s with axes := s.axes.set a (f (s.axes.get a)) }

/-- Change one clamp record. -/
def State.updClamp (s : State) (a : Axis) (f : Clamp → Clamp) : State :=
  { s with clamps := s.clamps.set a (f (s.clamps.get a)) }

/-- Change the follower's state of one axis. -/
def State.updHand (s : State) (a : Axis) (f : Hand → Hand) : State :=
  { s with hands := s.hands.set a (f (s.hands.get a)) }

/-- Change one program queue. -/
def State.updQueue (s : State) (p : Port) (f : Queue → Queue) : State :=
  { s with queues := s.queues.set p (f (s.queues.get p)) }

/-- Change one link port. -/
def State.updPort (s : State) (p : Port) (f : LinkPort → LinkPort) : State :=
  { s with ports := s.ports.set p (f (s.ports.get p)) }

/-- Set or remove the move record of a port's queue. -/
def State.setMove (s : State) (p : Port) (m : Option Move) : State :=
  { s with moves := s.moves.set p m }

/-- Set or discard one planned position of a port. -/
def State.setPlanned (s : State) (p : Port) (a : Axis) (v : Option Int) : State :=
  { s with planned := s.planned.set p ((s.planned.get p).set a v) }

/-- Change the spindle record. -/
def State.updSpindle (s : State) (f : Spindle → Spindle) : State := { s with spindle := f s.spindle }

/-- Change the coolant record. -/
def State.updCoolant (s : State) (f : Coolant → Coolant) : State := { s with coolant := f s.coolant }

/-- Change the hydraulic unit. -/
def State.updHyd (s : State) (f : Hyd → Hyd) : State := { s with hyd := f s.hyd }

/-! ### The claim table's rows -/

/-- The row of a resource (R1). -/
def Claims.row (c : Claims) : Resource → ClaimRow
  | .axis a => c.axes.get a
  | .spindle => c.spindle
  | .coolant => c.coolant

/-- The table with one row replaced. -/
def Claims.setRow (c : Claims) (r : Resource) (row : ClaimRow) : Claims :=
  match r with
  | .axis a => { c with axes := c.axes.set a row }
  | .spindle => { c with spindle := row }
  | .coolant => { c with coolant := row }

/-- The seven resources in the order of R11. -/
def Resource.all : List Resource := [.axis .x, .axis .y, .axis .z, .axis .w, .axis .b, .spindle, .coolant]

/-- The row of a resource in the state. -/
def State.row (s : State) (r : Resource) : ClaimRow := s.claims.row r

/-- Replace the row of a resource. -/
def State.setRow (s : State) (r : Resource) (row : ClaimRow) : State :=
  { s with claims := s.claims.setRow r row }

/-- The holder of a resource, if it has one (R1). -/
def State.holder (s : State) (r : Resource) : Option Port :=
  match (s.row r).state with
  | .held h => some h
  | .free => none
  | .orphaned _ => none

/-- The claim check (R12). -/
def State.hasClaim (s : State) (p : Port) (r : Resource) : Bool := decide (s.holder r = some p)

/-- All seven claims (R12). -/
def State.hasAllClaims (s : State) (p : Port) : Bool := Resource.all.all (s.hasClaim p)

/-! ### Event records (R185) -/

/-- Raise an event record for a port: a lost port takes none; a full queue drops it and sets the events-lost flag (R185). -/
def LinkPort.raise (l : LinkPort) (e : Event) : LinkPort :=
  match l.state with
  | .lost => l
  | .active => if l.events.length < 32 then { l with events := l.events ++ [e] } else { l with eventsLost := true }

/-- Raise an event record for a port (R185). -/
def State.raise (s : State) (p : Port) (e : Event) : State := s.updPort p (·.raise e)

/-- Raise an event record for the holder of a resource; a resource without a holder raises none (R74, R185). -/
def State.raiseHolder (s : State) (r : Resource) (e : Event) : State :=
  match s.holder r with
  | some p => s.raise p e
  | none => s

/-- Raise an event record for every port of a list for which the test holds. -/
def State.raiseWhere (s : State) (test : Port → Bool) (e : Event) : State :=
  Port.all.foldl (fun t p => if test p then t.raise p e else t) s

/-- Raise MACHINE STATE to every ACTIVE port (R172); a lost port takes no record (R185). -/
def State.raiseMachineState (s : State) : State :=
  s.raiseWhere (fun p => decide ((s.ports.get p).state = .active)) (.machineState s.machine)

/-! ### The hold-source set -/

/-- Whether no source is in the hold-source set (R176). -/
def HoldSet.isEmpty (h : HoldSet) : Bool := !h.links.link1 && !h.links.link2 && !h.links.link3 && !h.panel

/-! ### Coordinates of an axis -/

/-- k, the applied compensation: O - T at all times (R67). -/
def AxisUnit.k (u : AxisUnit) : Int := u.out - u.cmd

/-- E, the emitted position: O less the step backlog (R67). -/
def AxisUnit.emitted (u : AxisUnit) : Int := u.out - u.backlog

/-- A change of T that is not the port's own move moves the holder's planned position by the same amount (R23). -/
def State.shiftPlanned (s : State) (a : Axis) (d : Int) : State :=
  match s.holder (.axis a) with
  | none => s
  | some p => s.setPlanned p a (((s.planned.get p).get a).map (· + d))

/-- Set T, moving the holder's planned position with it (R23). -/
def State.setCmd (s : State) (a : Axis) (t : Int) : State :=
  (s.updAxis a (fun u => { u with cmd := t })).shiftPlanned a (t - (s.axes.get a).cmd)

/-- Add a shift to T, O and M; the backlog is left, so E moves with O (R89, R91). -/
def State.shiftAxis (s : State) (a : Axis) (d : Int) : State :=
  (s.updAxis a (fun u => { u with cmd := u.cmd + d, out := u.out + d, meas := u.meas + d })).shiftPlanned a d

/-! ### Timers -/

/-- The value a timer is started with: its parameter at that moment (R137, R161, R171). -/
def timerOf (ms : Int) : Timer := some ms.toNat

/-! ### The input conditioner (R195) -/

/-- The debounced level of a switch input. -/
def Inputs.level (i : Inputs) : SwitchInput → Bool
  | .clamp a .engaged => i.clampEngaged.get a
  | .clamp a .released => i.clampReleased.get a
  | .gear .a1 => i.gearA1
  | .gear .a2 => i.gearA2
  | .gear .b1 => i.gearB1
  | .gear .b2 => i.gearB2
  | .hydPressure => i.hydPressure
  | .coolantPressure => i.coolantPressure
  | .lowLevel => i.lowLevel
  | .home a => i.home.get a
  | .enabling => i.enabling
  | .panelHold => i.panelHold
  | .driveReady a => i.driveReady.get a
  | .spindleReady => i.spindleReady

/-- The debounce time of an input's group in ms, as its DEBOUNCE value stands now (R195, R194). -/
def DebounceTimes.time (d : DebounceTimes) : SwitchInput → Int
  | .clamp _ _ => d.clamp
  | .gear _ => d.gear
  | .hydPressure => d.hyd
  | .coolantPressure => 10 * d.coolant
  | .lowLevel => 10 * d.coolant
  | .home _ => d.home
  | .enabling => d.panel
  | .panelHold => d.panel
  | .driveReady _ => d.drive
  | .spindleReady => d.drive

/-- The debounce timer of an input. -/
def Conditioner.get (c : Conditioner) : SwitchInput → Timer
  | .clamp a .engaged => c.clampEngaged.get a
  | .clamp a .released => c.clampReleased.get a
  | .gear .a1 => c.gearA1
  | .gear .a2 => c.gearA2
  | .gear .b1 => c.gearB1
  | .gear .b2 => c.gearB2
  | .hydPressure => c.hydPressure
  | .coolantPressure => c.coolantPressure
  | .lowLevel => c.lowLevel
  | .home a => c.home.get a
  | .enabling => c.enabling
  | .panelHold => c.panelHold
  | .driveReady a => c.driveReady.get a
  | .spindleReady => c.spindleReady

/-- The timers with one input's replaced. -/
def Conditioner.set (c : Conditioner) (i : SwitchInput) (t : Timer) : Conditioner :=
  match i with
  | .clamp a .engaged => { c with clampEngaged := c.clampEngaged.set a t }
  | .clamp a .released => { c with clampReleased := c.clampReleased.set a t }
  | .gear .a1 => { c with gearA1 := t }
  | .gear .a2 => { c with gearA2 := t }
  | .gear .b1 => { c with gearB1 := t }
  | .gear .b2 => { c with gearB2 := t }
  | .hydPressure => { c with hydPressure := t }
  | .coolantPressure => { c with coolantPressure := t }
  | .lowLevel => { c with lowLevel := t }
  | .home a => { c with home := c.home.set a t }
  | .enabling => { c with enabling := t }
  | .panelHold => { c with panelHold := t }
  | .driveReady a => { c with driveReady := c.driveReady.set a t }
  | .spindleReady => { c with spindleReady := t }

/-- The raw level of a switch input: the other one than the debounced level while the debounce time runs. -/
def State.rawLevel (s : State) (i : SwitchInput) : Bool :=
  if (s.conditioner.get i).isSome then !Inputs.level s.inputs i else Inputs.level s.inputs i

/-- The debounce timer of an input once its raw level is at a level: stopped where that is the debounced level, running on where it
runs already, and started otherwise (R195). -/
def State.debounceTimer (s : State) (i : SwitchInput) (active : Bool) : Timer :=
  if active = Inputs.level s.inputs i then none
  else if (s.conditioner.get i).isSome then s.conditioner.get i
  else timerOf (s.config.debounce.time i)

/-- The state with one debounce timer replaced. -/
def State.setDebounce (s : State) (i : SwitchInput) (t : Timer) : State := { s with conditioner := s.conditioner.set i t }

/-! ### The serial memory (R193, section 13.5) -/

/-- The serial memory: its bytes by address. -/
abbrev Memory := List Host.Cell

/-- The serial memory holds 32 KB (chapter 12). -/
def serialSize : Nat := 32768

/-- What an address that is not listed reads as (log entry 11). -/
def unlistedByte : Byte := 0

/-- The byte at an address. -/
def Memory.read : Memory → Nat → Byte
  | [], _ => unlistedByte
  | (k, v) :: m, a => if k = a then v else Memory.read m a

/-- The memory with one byte written, in canonical form. -/
def Memory.write : Memory → Nat → Byte → Memory
  | [], a, v => if v = unlistedByte then [] else [(a, v)]
  | (k, w) :: m, a, v =>
    if a < k then (if v = unlistedByte then (k, w) :: m else (a, v) :: (k, w) :: m)
    else if a = k then (if v = unlistedByte then m else (a, v) :: m)
    else (k, w) :: Memory.write m a v

/-- The bytes from an address on, as many as asked. -/
def Memory.readBytes (m : Memory) (a n : Nat) : List Byte := (List.range n).map (fun i => Memory.read m (a + i))

/-- The memory with bytes written from an address on; a byte beyond the memory's last address is not written. -/
def Memory.writeBytes : Memory → Nat → List Byte → Memory
  | m, _, [] => m
  | m, a, v :: vs => Memory.writeBytes (if a < serialSize then Memory.write m a v else m) (a + 1) vs

/-- Canonical from an address on: strictly rising, no entry equal to the unlisted value, inside the memory. -/
def Memory.wfFrom : Nat → Memory → Bool
  | _, [] => true
  | lo, (k, v) :: m => decide (lo ≤ k) && decide (k < serialSize) && decide (v ≠ unlistedByte) && Memory.wfFrom (k + 1) m

/-- The canonical form of the serial memory. -/
def Memory.wf (m : Memory) : Bool := Memory.wfFrom 0 m

end Sys2Proof.Machine
end

