-- ==== Sys2Proof/Machine/Operands.lean ====
section
/-! DEFINITION. Machine/Operands.lean: the encodings of R200 and R201, in both directions: the bytes of parameters, of
replies and of event records, and the entries of section 13.3. -/

namespace Sys2Proof.Machine

/-! ### Bytes to numbers -/

/-- Two bytes, most significant first, as an unsigned number (R200). -/
def u16 (hi lo : Byte) : Nat := hi.toNat * 256 + lo.toNat

/-- Two bytes, most significant first, in two's complement (R200). -/
def s16 (hi lo : Byte) : Int := if u16 hi lo < 32768 then (u16 hi lo : Int) else (u16 hi lo : Int) - 65536

/-- Four bytes, most significant first, as an unsigned number. -/
def u32 (b3 b2 b1 b0 : Byte) : Nat := ((b3.toNat * 256 + b2.toNat) * 256 + b1.toNat) * 256 + b0.toNat

/-- Four bytes, most significant first, in two's complement (R200). -/
def s32 (b3 b2 b1 b0 : Byte) : Int :=
  if u32 b3 b2 b1 b0 < 2147483648 then (u32 b3 b2 b1 b0 : Int) else (u32 b3 b2 b1 b0 : Int) - 4294967296

/-! ### Numbers to bytes -/

/-- One byte of a count. -/
def enc1 (n : Nat) : Byte := BitVec.ofNat 8 n

/-- Two bytes, most significant first, two's complement (R200). -/
def enc2 (v : Int) : List Byte :=
  let n := (v % 65536).toNat
  [enc1 (n / 256), enc1 n]

/-- Four bytes, most significant first, two's complement (R200). -/
def enc4 (v : Int) : List Byte :=
  let n := (v % 4294967296).toNat
  [enc1 (n / 16777216), enc1 (n / 65536), enc1 (n / 256), enc1 n]

/-- A flag (R200). -/
def encFlag (f : Bool) : Byte := if f then 1 else 0

/-- A byte whose bits are the given flags, bit 0 first (R200). -/
def encBits : List Bool → Nat
  | [] => 0
  | f :: fs => (if f then 1 else 0) + 2 * encBits fs

/-! ### Codes of names (R200) -/

def Axis.code : Axis → Nat
  | .x => 0
  | .y => 1
  | .z => 2
  | .w => 3
  | .b => 4

def Axis.ofCode : Nat → Option Axis
  | 0 => some .x
  | 1 => some .y
  | 2 => some .z
  | 3 => some .w
  | 4 => some .b
  | _ => none

def Port.code : Port → Nat
  | .link1 => 1
  | .link2 => 2
  | .link3 => 3

def Port.ofCode : Nat → Option Port
  | 1 => some .link1
  | 2 => some .link2
  | 3 => some .link3
  | _ => none

/-- A port, or 0 where no port is named. -/
def encPort : Option Port → Byte
  | none => 0
  | some p => enc1 (Port.code p)

def Resource.code : Resource → Nat
  | .axis a => Axis.code a
  | .spindle => 5
  | .coolant => 6

def Resource.ofCode : Nat → Option Resource
  | 5 => some .spindle
  | 6 => some .coolant
  | n => (Axis.ofCode n).map .axis

def ResultCode.code : ResultCode → Nat
  | .ok => 0
  | .waiting => 1
  | .held => 2
  | .notHeld => 3
  | .busy => 4
  | .full => 5
  | .badParam => 6
  | .lost => 7
  | .notReady => 8
  | .limit => 9
  | .zone => 10
  | .clamped => 11
  | .notReferenced => 12
  | .state => 13
  | .hydraulic => 14
  | .unknown => 15

def EntryError.code : EntryError → Nat
  | .notHeld => 0
  | .limit => 1
  | .zone => 2
  | .clamped => 3
  | .notReferenced => 4
  | .state => 5
  | .axis => 6
  | .hydraulic => 7
  | .gear => 8
  | .coolant => 9
  | .timeout => 10
  | .noTrigger => 11
  | .probeActive => 12
  | .refFail => 13
  | .flushed => 14
  | .estop => 15

def MachineState.code : MachineState → Nat
  | .start => 0
  | .estop => 1
  | .resetWait => 2
  | .run => 3

def QueueState.code : QueueState → Nat
  | .empty => 0
  | .running => 1
  | .stalled => 2
  | .stopping => 3

def HydState.code : HydState → Nat
  | .off => 0
  | .starting => 1
  | .up => 2
  | .lost => 3

def ClampCause.code : ClampCause → Nat
  | .releaseTimeout => 1
  | .engageTimeout => 2
  | .switch => 3

def ClampState.code : ClampState → Nat
  | .engaged => 0
  | .releaseWait => 1
  | .releasing => 2
  | .released => 3
  | .engaging => 4
  | .fault _ => 5

def ClampState.causeCode : ClampState → Nat
  | .fault c => c.code
  | _ => 0

def AxisCause.code : AxisCause → Nat
  | .following => 1
  | .encoder => 2
  | .drive => 3
  | .clamp => 4

def SearchPhase.code : SearchPhase → Nat
  | .none => 0
  | .search => 1
  | .index => 2
  | .captured => 3

def WindowMethod.code : WindowMethod → Nat
  | .wrap => 0
  | .stop => 1

def GearRange.code : GearRange → Nat
  | .i => 1
  | .ii => 2
  | .iii => 3
  | .iv => 4

/-- A range, or 0 for UNKNOWN or none. -/
def encRange : Option GearRange → Byte
  | none => 0
  | some r => enc1 r.code

def GearRange.ofCode : Nat → Option GearRange
  | 1 => some .i
  | 2 => some .ii
  | 3 => some .iii
  | 4 => some .iv
  | _ => none

def GearCause.code : GearCause → Nat
  | .stopTimeout => 1
  | .shiftTimeout => 2
  | .rangeLost => 3
  | .drive => 4
  | .hydraulic => 5

def SpindleState.code : SpindleState → Nat
  | .stopped => 0
  | .running => 1
  | .stopping => 2
  | .shifting _ _ => 3
  | .fault _ => 4

def SpindleState.causeCode : SpindleState → Nat
  | .fault c => c.code
  | _ => 0

def ShiftStage.code : ShiftStage → Nat
  | .halt => 1
  | .hyd => 2
  | .cylA => 3
  | .cylB => 4

/-- Commanded direction and relay state: none or off 0, FWD 1, REV 2 (R200). -/
def encDrive : Option DriveDir → Byte
  | none => 0
  | some .fwd => 1
  | some .rev => 2

def SpinDir.code : SpinDir → Nat
  | .cw => 0
  | .ccw => 1

def CylPos.code : Option CylPos → Nat
  | none => 0
  | some .one => 1
  | some .two => 2

def CoolantMode.code : CoolantMode → Nat
  | .off => 0
  | .flood => 1
  | .through => 2
  | .both => 3

def CoolantMode.ofCode : Nat → Option CoolantMode
  | 0 => some .off
  | 1 => some .flood
  | 2 => some .through
  | 3 => some .both
  | _ => none

def CoolantCause.code : CoolantCause → Nat
  | .primeTimeout => 1
  | .pressureLost => 2
  | .lowLevel => 3

def FloodState.code : FloodState → Nat
  | .off => 0
  | .on => 1
  | .fault _ => 2

def FloodState.causeCode : FloodState → Nat
  | .fault c => c.code
  | _ => 0

def ThroughState.code : ThroughState → Nat
  | .off => 0
  | .waitSpindle => 1
  | .priming => 2
  | .on => 3
  | .fault _ => 4

def ThroughState.causeCode : ThroughState → Nat
  | .fault c => c.code
  | _ => 0

def EntryKind.code : EntryKind → Nat
  | .feed _ _ _ _ => 0
  | .rapid _ _ _ => 1
  | .probe _ _ _ _ => 2
  | .reference _ => 3
  | .dwell _ => 4
  | .spindle _ _ => 5
  | .coolant _ => 6
  | .clamp _ _ => 7
  | .wait _ _ => 8

/-- The bit of a wait step in READ QUEUE's set (R200). -/
def WaitStep.bit : WaitStep → Nat
  | .run => 1
  | .hand => 2
  | .takeUp => 4
  | .clamps => 8
  | .hold => 16
  | .probeLatch => 32
  | .standing => 64

/-! ### Sets -/

/-- An axis set: bit n for the axis of code n (R200). -/
def encAxisSet (test : Axis → Bool) : Byte := enc1 (encBits (Axis.all.map test))

/-- A resource set: bit n for the resource of code n (R200). -/
def encResourceSet (test : Resource → Bool) : Byte := enc1 (encBits (Resource.all.map test))

/-- The axes of an axis set; none where a bit beyond the members is set (R200). -/
def decAxisSet (m : Byte) : Option (List Axis) :=
  if m.toNat < 32 then some (Axis.all.filter (fun a => m.toNat.testBit (Axis.code a))) else none

/-- The resources of a resource set; none where a bit beyond the members is set (R200). -/
def decResourceSet (m : Byte) : Option (List Resource) :=
  if m.toNat < 128 then some (Resource.all.filter (fun r => m.toNat.testBit (Resource.code r))) else none

/-- The hold-source set: bits 0 to 2 for Link 1 to Link 3, bit 3 for PANEL (R200). -/
def encHolds (h : HoldSet) : Byte := enc1 (encBits [h.links.link1, h.links.link2, h.links.link3, h.panel])

/-! ### Enumerations of parameters -/

/-- A flag byte: 0 clear, 1 set, anything else invalid (R200). -/
def decFlag (b : Byte) : Option Bool := if b = 0 then some false else if b = 1 then some true else none

/-- A programmed direction: CW 0, CCW 1. -/
def decSpinDir (b : Byte) : Option SpinDir := if b = 0 then some .cw else if b = 1 then some .ccw else none

/-- A clamp policy: AUTO 0, NONE 1. -/
def decPolicy (b : Byte) : Option Policy := if b = 0 then some .auto else if b = 1 then some .noClamp else none

/-- A clamp action: ENGAGE 0, RELEASE 1. -/
def decAction (b : Byte) : Option ClampAction := if b = 0 then some .engage else if b = 1 then some .release else none

/-- A window method: WRAP 0, STOP 1. -/
def decMethod (b : Byte) : Option WindowMethod := if b = 0 then some .wrap else if b = 1 then some .stop else none

/-- A wait condition: AT_SPEED 0, SPINDLE_STOPPED 1, COOLANT_READY 2. -/
def decCond (b : Byte) : Option WaitCond :=
  if b = 0 then some .atSpeed else if b = 1 then some .spindleStopped else if b = 2 then some .coolantReady else none

/-- A handwheel multiplier: 0, 1, 2 for 1, 10, 100. -/
def decMultiplier (b : Byte) : Option Int := if b = 0 then some 1 else if b = 1 then some 10 else if b = 2 then some 100 else none

/-! ### Replies -/

/-- A reply of the result code alone (R201). -/
def replyCode (c : ResultCode) : List Byte := [enc1 c.code]

/-- An OK reply with its contents (R201). -/
def replyOk (contents : List Byte) : List Byte := enc1 ResultCode.ok.code :: contents

/-! ### Event records (R201) -/

/-- The kind byte of an event record (section 13.4). -/
def Event.kindCode : Event → Nat
  | .entryDone _ _ => 0
  | .entryFailed _ _ => 1
  | .queueFlushed _ => 2
  | .claimGranted _ => 3
  | .axisFault _ _ => 4
  | .clampFault _ _ => 5
  | .hydraulicLost => 6
  | .gearFault _ => 7
  | .coolantFault _ => 8
  | .handLimited _ => 9
  | .machineState _ => 10
  | .configDone _ => 11
  | .linkLost => 12

/-- The three field bytes of an event record, unused bytes 0 (section 13.4). -/
def Event.fields : Event → List Byte
  | .entryDone tag trig => enc2 tag.toNat ++ [encFlag trig]
  | .entryFailed tag code => enc2 tag.toNat ++ [enc1 code.code]
  | .queueFlushed n => [enc1 n, 0, 0]
  | .claimGranted r => [enc1 (Resource.code r), 0, 0]
  | .axisFault a c => [enc1 (Axis.code a), enc1 c.code, 0]
  | .clampFault a c => [enc1 (Axis.code a), enc1 c.code, 0]
  | .hydraulicLost => [0, 0, 0]
  | .gearFault c => [enc1 c.code, 0, 0]
  | .coolantFault c => [enc1 c.code, 0, 0]
  | .handLimited a => [enc1 (Axis.code a), 0, 0]
  | .machineState m => [enc1 m.code, 0, 0]
  | .configDone ok => [if ok then 0 else 1, 0, 0]
  | .linkLost => [0, 0, 0]

/-- The four bytes of an event record (section 13.4). -/
def Event.encode (e : Event) : List Byte := enc1 e.kindCode :: e.fields

/-! ### Entries of QUEUE ENTRY (section 13.3) -/

/-- The resources an entry names (R18). -/
def EntryKind.names : EntryKind → List Resource
  | .feed ps _ _ _ => ps.map (.axis ·.axis)
  | .rapid ps _ _ => ps.map (.axis ·.axis)
  | .probe ps _ _ _ => ps.map (.axis ·.axis)
  | .reference a => [.axis a]
  | .dwell _ => []
  | .spindle _ _ => [.spindle]
  | .coolant _ => [.coolant]
  | .clamp as _ => as.map .axis
  | .wait .coolantReady _ => [.coolant]
  | .wait .atSpeed _ => [.spindle]
  | .wait .spindleStopped _ => [.spindle]

/-- The (axis, delta) pairs of a move with deltas. -/
def EntryKind.pairs : EntryKind → List Pair
  | .feed ps _ _ _ => ps
  | .rapid ps _ _ => ps
  | .probe ps _ _ _ => ps
  | .reference _ => []
  | .dwell _ => []
  | .spindle _ _ => []
  | .coolant _ => []
  | .clamp _ _ => []
  | .wait _ _ => []

/-- The axes a motion entry moves. -/
def EntryKind.moveAxes : EntryKind → List Axis
  | .feed ps _ _ _ => ps.map (·.axis)
  | .rapid ps _ _ => ps.map (·.axis)
  | .probe ps _ _ _ => ps.map (·.axis)
  | .reference a => [a]
  | .dwell _ => []
  | .spindle _ _ => []
  | .coolant _ => []
  | .clamp _ _ => []
  | .wait _ _ => []

/-- FEED, RAPID, PROBE and REFERENCE are the motion entries (R18). -/
def EntryKind.isMotion : EntryKind → Bool
  | .feed _ _ _ _ => true
  | .rapid _ _ _ => true
  | .probe _ _ _ _ => true
  | .reference _ => true
  | .dwell _ => false
  | .spindle _ _ => false
  | .coolant _ => false
  | .clamp _ _ => false
  | .wait _ _ => false

/-- Whether an entry is a PROBE. -/
def EntryKind.isProbe : EntryKind → Bool
  | .probe _ _ _ _ => true
  | _ => false

/-- Whether an entry is a REFERENCE on an axis. -/
def EntryKind.isReferenceOf (k : EntryKind) (a : Axis) : Bool :=
  match k with
  | .reference a2 => decide (a = a2)
  | _ => false

/-- The clamp policy of a motion entry; a REFERENCE works under AUTO (R18). -/
def EntryKind.policy : EntryKind → Policy
  | .feed _ _ _ p => p
  | .rapid _ _ p => p
  | .probe _ _ _ p => p
  | .reference _ => .auto
  | .dwell _ => .noClamp
  | .spindle _ _ => .noClamp
  | .coolant _ => .noClamp
  | .clamp _ _ => .noClamp
  | .wait _ _ => .noClamp

/-- Pairs of an axis byte and a four-byte delta, as many as asked and no byte more. -/
def decPairs : Nat → List Byte → Option (List Pair)
  | 0, [] => some []
  | n + 1, ax :: b3 :: b2 :: b1 :: b0 :: rest =>
    match Axis.ofCode ax.toNat, decPairs n rest with
    | some a, some ps => some ({ axis := a, delta := s32 b3 b2 b1 b0 } :: ps)
    | _, _ => none
  | _, _ => none

/-- The largest |D| of the pairs. -/
def maxDelta : List Pair → Nat
  | [] => 0
  | p :: ps => max p.delta.natAbs (maxDelta ps)

/-- The sum of |D| of the pairs. -/
def sumDelta : List Pair → Nat
  | [] => 0
  | p :: ps => p.delta.natAbs + sumDelta ps

/-- No axis appears twice. -/
def distinctAxes : List Axis → Bool
  | [] => true
  | a :: as => !as.contains a && distinctAxes as

/-- The pairs and the path length of a move are valid (R19). -/
def validMove (ps : List Pair) (len : Nat) : Bool :=
  decide (1 ≤ ps.length) && decide (ps.length ≤ 5) && distinctAxes (ps.map (·.axis)) &&
  ps.all (fun p => decide (p.delta ≠ 0) && decide (p.delta.natAbs ≤ 100000000)) &&
  decide (maxDelta ps ≤ len) && decide (len ≤ min (sumDelta ps) 200000000)

/-- F is 1 to 30,000,000 units/min (R19). -/
def validFeed (f : Nat) : Bool := decide (1 ≤ f) && decide (f ≤ 30000000)

/-- The fields of an entry are valid (R19). -/
def EntryKind.valid : EntryKind → Bool
  | .feed ps len f _ => validMove ps len && validFeed f
  | .rapid ps len _ => validMove ps len
  | .probe ps len f _ => validMove ps len && validFeed f
  | .reference _ => true
  | .dwell t => decide (1 ≤ t) && decide (t ≤ 60000)
  | .spindle v _ => decide (v ≤ 12000)
  | .coolant _ => true
  | .clamp as _ => !as.isEmpty
  | .wait _ t => decide (t ≤ 600000)

/-- A four-byte field that may not be negative. -/
def nat32 (b3 b2 b1 b0 : Byte) : Option Nat :=
  if 0 ≤ s32 b3 b2 b1 b0 then some (s32 b3 b2 b1 b0).toNat else none

/-- The fields of a FEED or PROBE after the kind byte. -/
def decFeed (make : List Pair → Nat → Nat → Policy → EntryKind) : List Byte → Option EntryKind
  | n :: pol :: l3 :: l2 :: l1 :: l0 :: f3 :: f2 :: f1 :: f0 :: rest =>
    match decPolicy pol, nat32 l3 l2 l1 l0, nat32 f3 f2 f1 f0, decPairs n.toNat rest with
    | some p, some l, some f, some ps => some (make ps l f p)
    | _, _, _, _ => none
  | _ => none

/-- The fields of a kind after the kind byte (section 13.3). -/
def decKind : Nat → List Byte → Option EntryKind
  | 0, bs => decFeed .feed bs
  | 1, n :: pol :: l3 :: l2 :: l1 :: l0 :: rest =>
    match decPolicy pol, nat32 l3 l2 l1 l0, decPairs n.toNat rest with
    | some p, some l, some ps => some (.rapid ps l p)
    | _, _, _ => none
  | 2, bs => decFeed .probe bs
  | 3, [ax] => (Axis.ofCode ax.toNat).map .reference
  | 4, [t3, t2, t1, t0] => (nat32 t3 t2 t1 t0).map .dwell
  | 5, [v1, v0, d] => (decSpinDir d).map (.spindle (u16 v1 v0))
  | 6, [m] => (CoolantMode.ofCode m.toNat).map .coolant
  | 7, [set, act] =>
    match decAxisSet set, decAction act with
    | some as, some x => some (.clamp as x)
    | _, _ => none
  | 8, [c, t3, t2, t1, t0] =>
    match decCond c, nat32 t3 t2 t1 t0 with
    | some k, some t => some (.wait k t)
    | _, _ => none
  | _, _ => none

/-- The entry a QUEUE ENTRY carries, if its fields are valid (R19, section 13.3). -/
def decEntry : List Byte → Option Entry
  | t1 :: t0 :: k :: rest =>
    match decKind k.toNat rest with
    | some kind => if kind.valid then some { tag := BitVec.ofNat 16 (u16 t1 t0), kind := kind } else none
    | none => none
  | _ => none

/-! ### Zones -/

/-- lo and hi for each masked axis in the order X to B, and no byte more (section 13.2). -/
def decIntervals : List Axis → List Byte → Option Zone
  | [], [] => some (.const none)
  | a :: as, l3 :: l2 :: l1 :: l0 :: h3 :: h2 :: h1 :: h0 :: rest =>
    (decIntervals as rest).map (·.set a (some { lo := s32 l3 l2 l1 l0, hi := s32 h3 h2 h1 h0 }))
  | _, _ => none

/-- The axes of a zone's mask. -/
def Zone.mask (z : Zone) : List Axis := Axis.all.filter (fun a => (PerAxis.get z a).isSome)

/-- Check 1 of ZONE SET (R101): 1 to 5 axes, each bound within its range, lo at most hi. -/
def Zone.valid (z : Zone) : Bool :=
  !(Zone.mask z).isEmpty &&
  Axis.all.all (fun a =>
    match PerAxis.get z a with
    | none => true
    | some i => decide (-1000000000 ≤ i.lo) && decide (i.lo ≤ i.hi) && decide (i.hi ≤ 1000000000))

/-- The zone of an axis-set byte and interval bytes, if check 1 of R101 passes. -/
def decZone (mask : Byte) (bs : List Byte) : Option Zone :=
  match decAxisSet mask with
  | none => none
  | some as =>
    match decIntervals as bs with
    | none => none
    | some z => if Zone.valid z then some z else none

/-- lo and hi of each masked axis (section 13.4). -/
def Zone.encodeMasked (z : Zone) : List Byte :=
  (PerAxis.toList z).flatMap (fun i =>
    match i with
    | none => []
    | some i => enc4 i.lo ++ enc4 i.hi)

/-! ### What deciding a command gives -/

/-- What deciding a command gives (R181): the state after its changes, or none where it changes nothing; whether the other blocks
act on the change; and the reply. -/
structure Effect where
  changed : Option State
  settles : Bool
  reply : List Byte
  deriving DecidableEq, Repr

/-- A command refused with a result code: nothing changes (R184). -/
def Effect.refuse (c : ResultCode) : Effect := { changed := none, settles := false, reply := replyCode c }

/-- A command that only reads: OK with its contents. -/
def Effect.read (contents : List Byte) : Effect := { changed := none, settles := false, reply := replyOk contents }

/-- A command that is taken: the state it makes, on which the other blocks act, and OK with its contents. -/
def Effect.taken (s : State) (contents : List Byte) : Effect := { changed := some s, settles := true, reply := replyOk contents }

/-- A command that changes only its own port: no other block acts. -/
def Effect.ownPort (s : State) (contents : List Byte) : Effect :=
  { changed := some s, settles := false, reply := replyOk contents }

end Sys2Proof.Machine
end

