-- ==== Sys2Proof/Machine/Flags.lean ====
section
/-! DEFINITION. Machine/Flags.lean: the conditions the blocks read of one another: standing, follow-up, the demand set, the
range reading, compensation, evaluated zones, engaged ports and the states derived from stored fields. -/

namespace Sys2Proof.Machine

/-! ### Axes -/

/-- Whether a motion entry in EXECUTING names an axis: its move record exists (R49, R68). -/
def State.moveOn (s : State) (a : Axis) : Bool :=
  Port.all.any (fun p =>
    match s.moves.get p with
    | some m => m.axes.any (fun j => decide (j.axis = a))
    | none => false)

/-- An axis is standing: no motion entry executing on it, no pending distance, no take-up (R68). -/
def State.standing (s : State) (a : Axis) : Bool :=
  !s.moveOn a && decide ((s.hands.get a).pending = 0) && decide ((s.axes.get a).takeUp = none)

/-- An axis is in follow-up (R76). -/
def State.followUp (s : State) (a : Axis) : Bool :=
  (s.axes.get a).fault.isSome || decide (s.machine = .start) || decide (s.machine = .estop)

/-- The quotient rounded half away from zero (section 6.5), for a positive divisor. -/
def divHalfAway (n : Int) (d : Nat) : Int :=
  if 0 ≤ n then ((2 * n.natAbs + d) / (2 * d) : Nat) else -(((2 * n.natAbs + d) / (2 * d) : Nat) : Int)

/-- A table value, 0 beyond the table's 64. -/
def tableAt (t : List Int) (i : Nat) : Int := (t[i]?).getD 0

/-- comp(p), the correction at a position (R81). -/
def compAt (par : AxisParams) (table : List Int) (p : Int) : Int :=
  if p ≤ par.compOrigin then tableAt table 0
  else if par.compOrigin + 63 * par.compSpacing ≤ p then tableAt table 63
  else
    let i := ((p - par.compOrigin) / par.compSpacing).toNat
    let f := p - par.compOrigin - i * par.compSpacing
    tableAt table i + divHalfAway ((tableAt table (i + 1) - tableAt table i) * f) par.compSpacing.toNat

/-- comp(p) of one axis under the working configuration (R81). -/
def State.comp (s : State) (a : Axis) (p : Int) : Int :=
  compAt (s.config.axes.get a) (s.config.comp.get a) p

/-! ### Clamps and hydraulics -/

/-- The states in which a clamp is in the demand set: RELEASE_WAIT, RELEASING, RELEASED (R120). -/
def ClampState.demands : ClampState → Bool
  | .releaseWait => true
  | .releasing => true
  | .released => true
  | .engaged => false
  | .engaging => false
  | .fault _ => false

/-- Whether a clamp is in FAULT. -/
def ClampState.isFault : ClampState → Bool
  | .fault _ => true
  | _ => false

/-- The clamp's switches agree on released (R126). -/
def State.agreeReleased (s : State) (a : Axis) : Bool := s.inputs.clampReleased.get a && !s.inputs.clampEngaged.get a

/-- The clamp's switches agree on engaged (R126). -/
def State.agreeEngaged (s : State) (a : Axis) : Bool := s.inputs.clampEngaged.get a && !s.inputs.clampReleased.get a

/-- The spindle unit's place in the demand set: stage HYD and the cylinder stages (R120). -/
def SpindleState.demands : SpindleState → Bool
  | .shifting _ .hyd => true
  | .shifting _ .cylA => true
  | .shifting _ .cylB => true
  | .shifting _ .halt => false
  | .stopped => false
  | .running => false
  | .stopping => false
  | .fault _ => false

/-- Whether the spindle unit is in FAULT. -/
def SpindleState.isFault : SpindleState → Bool
  | .fault _ => true
  | _ => false

/-- Whether the demand set is not empty (R120). -/
def State.demand (s : State) : Bool :=
  Axis.all.any (fun a => (s.clamps.get a).state.demands) || s.spindle.state.demands

/-! ### Spindle -/

/-- A cylinder's position from its two end switches (R141). -/
def cylReading (sw1 sw2 : Bool) : Option CylPos :=
  if sw1 && !sw2 then some .one else if sw2 && !sw1 then some .two else none

/-- What cylinder A reads. -/
def State.readA (s : State) : Option CylPos := cylReading s.inputs.gearA1 s.inputs.gearA2

/-- What cylinder B reads. -/
def State.readB (s : State) : Option CylPos := cylReading s.inputs.gearB1 s.inputs.gearB2

/-- The range two cylinder positions give (R141). -/
def rangeOf : Option CylPos → Option CylPos → Option GearRange
  | some .one, some .one => some .i
  | some .two, some .one => some .ii
  | some .one, some .two => some .iii
  | some .two, some .two => some .iv
  | _, _ => none

/-- The range reading; none is UNKNOWN (R141). -/
def State.rangeReading (s : State) : Option GearRange := rangeOf s.readA s.readB

/-- The position a range wants of cylinder A (R141). -/
def GearRange.wantA : GearRange → CylPos
  | .i => .one
  | .ii => .two
  | .iii => .one
  | .iv => .two

/-- The position a range wants of cylinder B (R141). -/
def GearRange.wantB : GearRange → CylPos
  | .i => .one
  | .ii => .one
  | .iii => .two
  | .iv => .two

/-- The row of a range (R142). -/
def WorkingConfig.range (c : WorkingConfig) : GearRange → RangeRow
  | .i => c.rangeI
  | .ii => c.rangeII
  | .iii => c.rangeIII
  | .iv => c.rangeIV

/-- Output code 0, relays off and the standstill flag set: what ends STOPPING and HALT (R150, R151). -/
def Spindle.quiet (sp : Spindle) : Bool :=
  decide (sp.outCode = 0) && decide (sp.relay = none) && sp.standstill

/-! ### Coolant -/

/-- Whether a mode requests the flood element (R162). -/
def CoolantMode.flooding : CoolantMode → Bool
  | .flood => true
  | .both => true
  | .off => false
  | .through => false

/-- Whether a mode requests the through element (R162). -/
def CoolantMode.throughSpindle : CoolantMode → Bool
  | .through => true
  | .both => true
  | .off => false
  | .flood => false

/-- Whether the flood element is in FAULT. -/
def FloodState.isFault : FloodState → Bool
  | .fault _ => true
  | _ => false

/-- Whether the through element is in FAULT. -/
def ThroughState.isFault : ThroughState → Bool
  | .fault _ => true
  | _ => false

/-! ### Program queues -/

/-- The state of a queue (R25). -/
def Queue.state (q : Queue) : QueueState :=
  match q.entries with
  | [] => .empty
  | _ :: _ =>
    match q.stop with
    | .flushed => .stopping
    | .portLost => .stopping
    | .running =>
      match q.head with
      | .failed _ => .stalled
      | .starting _ => .running
      | .executing => .running

/-- Whether an entry of a queue names a resource, in whatever sub-state it is (R18, R6). -/
def Queue.names (q : Queue) (r : Resource) : Bool := q.entries.any (fun e => e.kind.names.contains r)

/-- Whether a REFERENCE entry for an axis is waiting, in STARTING or EXECUTING: the axis is then excluded (R24, log entry 23). -/
def Queue.excludes (q : Queue) (a : Axis) : Bool :=
  match q.entries with
  | [] => false
  | e :: rest =>
    (match q.head with
      | .failed _ => false
      | .starting _ => e.kind.isReferenceOf a
      | .executing => e.kind.isReferenceOf a) ||
    rest.any (fun d => d.kind.isReferenceOf a)

/-- The sum of the deltas of an axis over the motion entries of a list. -/
def deltaSum (es : List Entry) (a : Axis) : Int :=
  es.foldl (fun n e => e.kind.pairs.foldl (fun m q => if q.axis = a then m + q.delta else m) n) 0

/-! ### Link ports -/

/-- Whether a port holds a resource, waits for one or has a queue that is not EMPTY (R187). -/
def State.hasStake (s : State) (p : Port) : Bool :=
  Resource.all.any (fun r => s.hasClaim p r || (s.row r).waiting.contains p) || !(s.queues.get p).entries.isEmpty

/-- Whether a port is engaged (R187). -/
def State.engaged (s : State) (p : Port) : Bool :=
  decide ((s.ports.get p).state = .active) && s.hasStake p

/-- The attention output of a port: its event queue is not empty (R185). -/
def LinkPort.attention (l : LinkPort) : Bool := !l.events.isEmpty

/-! ### Zones -/

/-- A zone is evaluated while every axis of its mask is referenced (R97). -/
def State.evaluated (s : State) (z : Zone) : Bool :=
  Axis.all.all (fun a => (PerAxis.get z a).isNone || (s.axes.get a).referenced)

end Sys2Proof.Machine
end

