-- ==== Sys2Proof/Machine/Spindle.lean ====
section
/-! DEFINITION. Machine/Spindle.lean: the spindle unit and the gearbox (08_spindle_and_gearbox.md, R138 to R161). -/

namespace Sys2Proof.Machine

/-! ### Range choice and drive code -/

/-- The four ranges, the lowest first. -/
def GearRange.all : List GearRange := [.i, .ii, .iii, .iv]

/-- The value clamped to a range (section 6.5). -/
def clampNat (lo hi v : Nat) : Nat := max lo (min v hi)

/-- A programmed speed clamped from the minimum of range I to the maximum of range IV (R143). -/
def WorkingConfig.clampSpeed (c : WorkingConfig) (speed : Nat) : Nat :=
  clampNat c.rangeI.min.toNat c.rangeIV.max.toNat speed

/-- A range contains a speed when its minimum ≤ S ≤ its maximum (R143). -/
def WorkingConfig.contains (c : WorkingConfig) (r : GearRange) (speed : Nat) : Bool :=
  decide ((c.range r).min.toNat ≤ speed) && decide (speed ≤ (c.range r).max.toNat)

/-- The range chosen for a programmed speed above 0: the current range if it contains the clamped speed, else the lowest
that does (R143). A table that leaves the speed out, which R142 rules out, gives range IV (log entry 35). -/
def WorkingConfig.chooseRange (c : WorkingConfig) (current : Option GearRange) (speed : Nat) : GearRange :=
  let v := c.clampSpeed speed
  match current with
  | some r => if c.contains r v then r else (GearRange.all.find? (c.contains · v)).getD .iv
  | none => (GearRange.all.find? (c.contains · v)).getD .iv

/-- S' for a programmed speed above 0 in a range (R144). -/
def State.effectiveSpeed (s : State) (r : GearRange) (speed : Nat) : Nat :=
  clampNat (s.config.range r).min.toNat (s.config.range r).max.toNat
    (s.config.clampSpeed speed * s.overrides.spindle / 100)

/-- The drive code for an effective speed in a range (R144). -/
def WorkingConfig.driveCode (c : WorkingConfig) (r : GearRange) (eff : Nat) : Nat :=
  min 65535 (eff * (c.range r).num.toNat * 65535 / ((c.range r).den.toNat * c.spindle.motorMax.toNat))

/-- The current range for the range choice: the engaged range, or during a shift the range being shifted to (R143). -/
def Spindle.currentRange (sp : Spindle) : Option GearRange :=
  match sp.state with
  | .shifting t _ => some t
  | .stopped => sp.engaged
  | .running => sp.engaged
  | .stopping => sp.engaged
  | .fault _ => sp.engaged

/-- A CW target commands FWD and a CCW target REV (R145). -/
def SpinDir.drive : SpinDir → DriveDir
  | .cw => .fwd
  | .ccw => .rev

/-! ### The at-speed watch (R146) -/

/-- The band test: |measured - S'| ≤ max(ATS_ABS, floor(S'·ATS_PCT / 100)), failing while the relay differs from the
commanded direction (R146). -/
def State.inBand (s : State) : Bool :=
  let sp := s.spindle
  decide (((sp.measured : Int) - sp.effective).natAbs ≤
      max s.config.spindle.atsAbs.toNat (sp.effective * s.config.spindle.atsPct.toNat / 100)) &&
    decide (sp.relay = sp.cmdDir)

/-- The at-speed test (R146), made in RUNNING only. -/
def State.atSpeedTest (s : State) : State :=
  if s.spindle.state = .running then
    if s.inBand then
      if s.spindle.atSpeedTimer = none && !s.spindle.atSpeed then
        if s.config.spindle.atsDwell.toNat = 0 then s.updSpindle (fun sp => { sp with atSpeed := true })
        else s.updSpindle (fun sp => { sp with atSpeedTimer := timerOf s.config.spindle.atsDwell })
      else s
    else s.updSpindle (fun sp => { sp with atSpeedTimer := none, atSpeed := false })
  else s

/-- A change of S' or of the commanded direction clears the flag, stops the timer and makes the test (R146). -/
def State.atSpeedRestart (s : State) : State :=
  (s.updSpindle (fun sp => { sp with atSpeedTimer := none, atSpeed := false })).atSpeedTest

/-! ### States -/

/-- All four valves off. -/
def GearValves.allOff : GearValves := { a1 := false, a2 := false, b1 := false, b2 := false }

/-- The spindle unit enters FAULT (R158); a unit in FAULT keeps its first cause. The standstill timer is the tachometer's watch (R140)
and runs on (log entry 37). -/
def State.spindleFault (s : State) (c : GearCause) : State :=
  if s.spindle.state.isFault then s
  else
    (s.updSpindle (fun sp =>
      { sp with
        state := .fault c, speed := 0, effective := 0, engaged := s.rangeReading, cmdCode := 0, cmdDir := none, outCode := 0,
        relay := none, valves := .allOff, atSpeed := false, atSpeedTimer := none, stopTimer := none, stageTimer := none,
        halfTimer := none, moveB := false })).raiseHolder .spindle (.gearFault c)

/-- On entering or staying in RUNNING S' is found and the commanded code and direction are set from it (R149); a change of S' or of
the direction starts the at-speed watch anew (R146). -/
def State.enterRunning (s : State) (r : GearRange) : State :=
  let eff := s.effectiveSpeed r s.spindle.speed
  let dir := some s.spindle.dir.drive
  let same := decide (s.spindle.state = .running) && decide (s.spindle.effective = eff) && decide (s.spindle.cmdDir = dir)
  let t := s.updSpindle (fun sp =>
    { sp with
      state := .running, effective := eff, cmdCode := s.config.driveCode r eff, cmdDir := dir, stopTimer := none })
  if same then t else t.atSpeedRestart

/-- On entering STOPPING the commanded direction becomes none and the stop timer starts (R149). -/
def State.enterStopping (s : State) : State :=
  s.updSpindle (fun sp =>
    { sp with
      state := .stopping, cmdCode := 0, cmdDir := none, atSpeed := false, atSpeedTimer := none,
      stopTimer := timerOf s.config.spindle.stopLimit })

/-- A shift starts in stage HALT (R151). -/
def State.startShift (s : State) (r : GearRange) : State :=
  s.updSpindle (fun sp =>
    { sp with
      state := .shifting r .halt, cmdCode := 0, cmdDir := none, atSpeed := false, atSpeedTimer := none,
      stopTimer := timerOf s.config.spindle.stopLimit })

/-- The target goes into the record, with S' for the range it will run in (R148, R155, log entry 18). -/
def State.recordTarget (s : State) (speed : Nat) (dir : SpinDir) : State :=
  s.updSpindle (fun sp => { sp with speed := speed, dir := dir })

/-- S' for a target as it is taken: 0 for S = 0, else found for the chosen range (R144, R148). -/
def State.targetEffective (s : State) (speed : Nat) : Nat :=
  if speed = 0 then 0 else s.effectiveSpeed (s.config.chooseRange s.spindle.currentRange speed) speed

/-- A target is taken (R149, R155). In FAULT it is not taken and changes nothing (R148). -/
def State.takeTarget (s : State) (speed : Nat) (dir : SpinDir) : State :=
  match s.spindle.state with
  | .fault _ => s
  | .shifting _ _ =>
    (s.recordTarget speed dir).updSpindle (fun sp => { sp with effective := s.targetEffective speed })
  | .stopped =>
    if speed = 0 then (s.recordTarget 0 dir).updSpindle (fun sp => { sp with effective := 0 })
    else if s.spindle.engaged = some (s.config.chooseRange s.spindle.engaged speed) then
      (s.recordTarget speed dir).enterRunning (s.config.chooseRange s.spindle.engaged speed)
    else
      ((s.recordTarget speed dir).updSpindle (fun sp => { sp with effective := s.targetEffective speed })).startShift
        (s.config.chooseRange s.spindle.engaged speed)
  | .running =>
    if speed = 0 then ((s.recordTarget 0 dir).updSpindle (fun sp => { sp with effective := 0 })).enterStopping
    else if s.spindle.engaged = some (s.config.chooseRange s.spindle.engaged speed) then
      (s.recordTarget speed dir).enterRunning (s.config.chooseRange s.spindle.engaged speed)
    else
      ((s.recordTarget speed dir).updSpindle (fun sp => { sp with effective := s.targetEffective speed })).startShift
        (s.config.chooseRange s.spindle.engaged speed)
  | .stopping =>
    if speed = 0 then (s.recordTarget 0 dir).updSpindle (fun sp => { sp with effective := 0 })
    else if s.spindle.engaged = some (s.config.chooseRange s.spindle.engaged speed) then
      (s.recordTarget speed dir).enterRunning (s.config.chooseRange s.spindle.engaged speed)
    else
      ((s.recordTarget speed dir).updSpindle (fun sp => { sp with effective := s.targetEffective speed })).startShift
        (s.config.chooseRange s.spindle.engaged speed)

/-! ### The stages of a shift -/

/-- The valve a cylinder stage turns on, with the other three off (R152). -/
def stageValves : ShiftStage → GearRange → GearValves
  | .cylA, r =>
    match r.wantA with
    | .one => { GearValves.allOff with a1 := true }
    | .two => { GearValves.allOff with a2 := true }
  | .cylB, r =>
    match r.wantB with
    | .one => { GearValves.allOff with b1 := true }
    | .two => { GearValves.allOff with b2 := true }
  | .halt, _ => .allOff
  | .hyd, _ => .allOff

/-- A cylinder stage begins: its valve and its stage timer (R152). -/
def State.enterCylinder (s : State) (r : GearRange) (stage : ShiftStage) : State :=
  s.updSpindle (fun sp =>
    { sp with
      state := .shifting r stage, valves := stageValves stage r, stageTimer := timerOf s.config.spindle.shiftLimit })

/-- Rocking begins on entry to the first cylinder stage of a shift (R152). With a WIGGLE_CODE of 0 the same steps run at code 0 (log
entry 38). -/
def State.startRocking (s : State) : State :=
  s.updSpindle (fun sp =>
    { sp with
      cmdCode := s.config.spindle.wiggleCode.toNat, cmdDir := some .fwd, halfTimer := timerOf s.config.spindle.wiggleHalf })

/-- The end of stage HYD settles which cylinders must move: the first cylinder stage is CYL_A if A must, and CYL_B otherwise (R151). -/
def State.endHyd (s : State) (r : GearRange) : State :=
  ((s.enterCylinder r (if s.readA = some r.wantA then .cylB else .cylA)).startRocking).updSpindle (fun sp =>
    { sp with moveB := decide (s.readB ≠ some r.wantB) })

/-- Rocking ends with the last cylinder stage: output 0 and relays off at once (R152). -/
def State.endRocking (s : State) : State :=
  s.updSpindle (fun sp =>
    { sp with
      valves := .allOff, stageTimer := none, halfTimer := none, moveB := false, cmdCode := 0, cmdDir := none, outCode := 0,
      relay := none })

/-- A shift is confirmed by reading the range from the switches (R154). Where the confirmation starts a second shift, S' is not found
again: the record keeps the S' found with the target until the confirmation that enters RUNNING (DEDUCED, log entry 18). -/
def State.confirmShift (s : State) (r : GearRange) : State :=
  if s.rangeReading = some r then
    let t := s.updSpindle (fun sp => { sp with engaged := some r })
    if s.spindle.speed = 0 then t.updSpindle (fun sp => { sp with state := .stopped, effective := 0 })
    else if s.config.contains r (s.config.clampSpeed s.spindle.speed) then t.enterRunning r
    else t.startShift (s.config.chooseRange (some r) s.spindle.speed)
  else s.spindleFault .rangeLost

/-- What the spindle unit does as soon as its conditions hold: the end of STOPPING (R150), of HALT and HYD (R151) and of a
cylinder stage (R152). One transition at a time. -/
def State.spindleFollow (s : State) : State :=
  match s.spindle.state with
  | .stopping =>
    if s.spindle.quiet then s.updSpindle (fun sp => { sp with state := .stopped, stopTimer := none }) else s
  | .shifting r .halt =>
    if s.spindle.quiet then s.updSpindle (fun sp => { sp with state := .shifting r .hyd, stopTimer := none }) else s
  | .shifting r .hyd =>
    match s.hyd.state with
    | .up => s.endHyd r
    | .lost => s.spindleFault .hydraulic
    | .off => s
    | .starting => s
  | .shifting r .cylA =>
    if s.readA = some r.wantA then
      if s.spindle.moveB then s.enterCylinder r .cylB else s.endRocking.confirmShift r
    else s
  | .shifting r .cylB =>
    if s.readB = some r.wantB then s.endRocking.confirmShift r else s
  | .stopped => s
  | .running => s
  | .fault _ => s

/-! ### Watches, ramp and resets -/

/-- The range watch at a change of a gear switch: STOPPED follows the reading (R141); in RUNNING, STOPPING, HALT and HYD a reading
other than the engaged range is RANGE_LOST (R157). -/
def State.rangeWatch (s : State) : State :=
  match s.spindle.state with
  | .stopped => s.updSpindle (fun sp => { sp with engaged := s.rangeReading })
  | .running => if s.rangeReading = s.spindle.engaged then s else s.spindleFault .rangeLost
  | .stopping => if s.rangeReading = s.spindle.engaged then s else s.spindleFault .rangeLost
  | .shifting _ .halt => if s.rangeReading = s.spindle.engaged then s else s.spindleFault .rangeLost
  | .shifting _ .hyd => if s.rangeReading = s.spindle.engaged then s else s.spindleFault .rangeLost
  | .shifting _ .cylA => s
  | .shifting _ .cylB => s
  | .fault _ => s

/-- The output ramp of one motion period (R145). -/
def Spindle.rampStep (sp : Spindle) (ramp : Nat) : Spindle :=
  if sp.relay = sp.cmdDir then
    if sp.outCode ≤ sp.cmdCode then { sp with outCode := min sp.cmdCode (sp.outCode + ramp) }
    else { sp with outCode := max sp.cmdCode (sp.outCode - ramp) }
  else if sp.outCode = 0 then { sp with relay := sp.cmdDir }
  else { sp with outCode := sp.outCode - min sp.outCode ramp }

/-- The spindle unit's part of a motion period (R145). -/
def State.spindlePeriod (s : State) : State := s.updSpindle (·.rampStep s.config.spindle.ramp.toNat)

/-- The spindle unit when the machine enters ESTOP (R160). -/
def State.spindleEstop (s : State) : State :=
  if s.spindle.state.isFault then s
  else
    s.updSpindle (fun sp =>
      { sp with
        state := .stopped, speed := 0, effective := 0, engaged := s.rangeReading, cmdCode := 0, cmdDir := none, outCode := 0,
        relay := none, valves := .allOff, atSpeed := false, atSpeedTimer := none, stopTimer := none, stageTimer := none,
        halfTimer := none, moveB := false })

/-- The spindle unit at a MACHINE RESET (R159). -/
def State.spindleReset (s : State) : State :=
  if s.spindle.state.isFault && s.inputs.spindleReady then
    s.updSpindle (fun sp => { sp with state := .stopped, engaged := s.rangeReading })
  else s

/-- A new spindle override: in RUNNING S' is found again (R144, R178); during a shift it has no effect until
confirmation (R155), and in STOPPED, STOPPING and FAULT it is kept for the next target (R178). -/
def State.spindleOverride (s : State) : State :=
  match s.spindle.state, s.spindle.engaged with
  | .running, some r => s.enterRunning r
  | _, _ => s

/-! ### Tachometer (R138 to R140) -/

/-- The standstill watch at a measurement (R140). -/
def Spindle.standstillMeasure (sp : Spindle) : Spindle :=
  if sp.measured < 20 then
    if sp.standstillTimer = none && !sp.standstill then { sp with standstillTimer := some 200 } else sp
  else { sp with standstillTimer := none, standstill := false }

/-- The speed of a PERIOD window of P microseconds (R138); a window of 0 microseconds gives a free value (log entry 17). -/
def windowSpeed (free : Nat → Nat) (choice p : Nat) : Nat := if p = 0 then free choice else 9375000 / p

/-- The speed of a COUNT gate of N edges (R139). -/
def gateSpeed (n : Nat) : Nat := n * 1875 / 32

/-- A rising edge of the spindle encoder's channel A at a time in microseconds (R138, R139). A window of no microseconds gives a
free value (log entry 17). -/
def State.tachEdge (s : State) (time : Nat) : State × Option Nat :=
  match s.spindle.tach with
  | .period none => (s.updSpindle (fun sp => { sp with tach := .period (some (time, 0)) }), none)
  | .period (some (opened, n)) =>
    if n + 1 < 16 then (s.updSpindle (fun sp => { sp with tach := .period (some (opened, n + 1)) }), none)
    else
      let v := windowSpeed Config.speedOfEmptyWindow s.choices (time - opened)
      let t : State := if time ≤ opened then { s with choices := s.choices + 1 } else s
      (t.updSpindle (fun sp => { sp with tach := if 600 ≤ v then .count 0 else .period (some (time, 0)) }), some v)
  | .count n => (s.updSpindle (fun sp => { sp with tach := .count (n + 1) }), none)

/-- The window limit expires: the speed reads 0 and the window closes (R138). -/
def State.tachLimit (s : State) : State × Option Nat :=
  match s.spindle.tach with
  | .period (some _) => (s.updSpindle (fun sp => { sp with tach := .period none }), some 0)
  | .period none => (s, none)
  | .count _ => (s, none)

/-- A gate ends (R139). -/
def State.tachGate (s : State) : State × Option Nat :=
  match s.spindle.tach with
  | .count n => (s.updSpindle (fun sp => { sp with tach := if gateSpeed n < 500 then .period none else .count 0 }), some (gateSpeed n))
  | .period _ => (s, none)

/-! ### Timers and inputs -/

/-- The standstill timer expires (R140). -/
def State.standstillExpiry (s : State) : State :=
  if s.spindle.standstillTimer.isSome then s.updSpindle (fun sp => { sp with standstill := true, standstillTimer := none }) else s

/-- The at-speed timer expires (R146). -/
def State.atSpeedExpiry (s : State) : State :=
  if s.spindle.atSpeedTimer.isSome then s.updSpindle (fun sp => { sp with atSpeed := true, atSpeedTimer := none }) else s

/-- The stop timer expires in STOPPING or HALT (R150, R151). -/
def State.stopExpiry (s : State) : State :=
  if s.spindle.stopTimer.isSome then s.spindleFault .stopTimeout else s

/-- The stage timer of a cylinder stage expires (R153). -/
def State.stageExpiry (s : State) : State :=
  if s.spindle.stageTimer.isSome then s.spindleFault .shiftTimeout else s

/-- The reversed direction of rocking (R152). -/
def reverseDir : Option DriveDir → Option DriveDir
  | some .fwd => some .rev
  | some .rev => some .fwd
  | none => none

/-- The half timer of rocking expires and restarts (R152). -/
def State.halfExpiry (s : State) : State :=
  if s.spindle.halfTimer.isSome then
    s.updSpindle (fun sp => { sp with cmdDir := reverseDir sp.cmdDir, halfTimer := timerOf s.config.spindle.wiggleHalf })
  else s

/-- The level of a gear end switch. -/
def Inputs.gear (i : Inputs) : GearSwitch → Bool
  | .a1 => i.gearA1
  | .a2 => i.gearA2
  | .b1 => i.gearB1
  | .b2 => i.gearB2

/-- The inputs with a gear end switch at a level. -/
def Inputs.setGear (i : Inputs) (g : GearSwitch) (active : Bool) : Inputs :=
  match g with
  | .a1 => { i with gearA1 := active }
  | .a2 => { i with gearA2 := active }
  | .b1 => { i with gearB1 := active }
  | .b2 => { i with gearB2 := active }

/-- A gear end switch changes: the range watch (R141, R157); in START only its level is kept. -/
def State.gearChange (s : State) (g : GearSwitch) (active : Bool) : State :=
  let t : State := { s with inputs := Inputs.setGear s.inputs g active }
  if s.machine = .start then t else t.rangeWatch

/-- The spindle drive-ready input (R157). -/
def State.spindleReadyChange (s : State) (ready : Bool) : State :=
  let t : State := { s with inputs := { s.inputs with spindleReady := ready } }
  if s.inputs.spindleReady && !ready && decide (s.machine ≠ .start) then t.spindleFault .drive else t

/-! ### SPINDLE and SHIFT -/

/-- SPINDLE with its fields decoded: checks 2 to 4 and its effect (R148). -/
def State.takeSpindle (s : State) (p : Port) (speed : Nat) (dir : SpinDir) : Effect :=
  if !s.hasClaim p .spindle then .refuse .notHeld
  else if s.machine ≠ .run ∧ (0 < speed ∨ s.machine = .start) then .refuse .notReady
  else if s.spindle.state.isFault then .refuse .state
  else
    .taken (s.takeTarget speed dir)
      (encRange (if speed = 0 then none else some (s.config.chooseRange s.spindle.currentRange speed)) ::
        enc2 (s.targetEffective speed))

/-- SPINDLE (R148). -/
def State.effSpindle (s : State) (p : Port) (bs : List Byte) : Effect :=
  match bs with
  | [v1, v0, d] =>
    match decSpinDir d with
    | none => .refuse .badParam
    | some dir => if 12000 < u16 v1 v0 then .refuse .badParam else s.takeSpindle p (u16 v1 v0) dir
  | _ => .refuse .badParam

/-- SHIFT with its range decoded: checks 2 to 5 and its effect (R156). -/
def State.takeShift (s : State) (p : Port) (r : GearRange) : Effect :=
  if !s.hasClaim p .spindle then .refuse .notHeld
  else if s.machine ≠ .run then .refuse .notReady
  else if s.spindle.state ≠ .stopped then .refuse .busy
  else if s.hyd.state = .lost then .refuse .hydraulic
  else if s.spindle.engaged = some r then .read []
  else .taken ((s.updSpindle (fun sp => { sp with speed := 0, effective := 0 })).startShift r) []

/-- SHIFT (R156). -/
def State.effShift (s : State) (p : Port) (bs : List Byte) : Effect :=
  match bs with
  | [r] =>
    match GearRange.ofCode r.toNat with
    | none => .refuse .badParam
    | some g => s.takeShift p g
  | _ => .refuse .badParam

end Sys2Proof.Machine
end

