-- ==== Sys2Proof/Machine/Coolant.lean ====
section
/-! DEFINITION. Machine/Coolant.lean: the coolant unit (09_coolant.md, R162 to R171) and the delivery of a speed measurement
to the three watches that read it (R139). -/

namespace Sys2Proof.Machine

/-- Entry to PRIMING: pump on and prime timer started; a pressure switch already active brings the element to ON in the same
event (R164, R165). -/
def State.enterPriming (s : State) : State :=
  if s.inputs.coolantPressure then
    s.updCoolant (fun c => { c with through := .on, throughPump := true, primeTimer := none })
  else
    s.updCoolant (fun c => { c with through := .priming, throughPump := true, primeTimer := timerOf s.config.tscPrimeLimit })

/-- The through element at a measurement (R164). -/
def State.coolantMeasure (s : State) : State :=
  if s.config.tscMinSpeed.toNat ≤ s.spindle.measured then
    match s.coolant.through with
    | .waitSpindle => s.enterPriming
    | .off => s
    | .priming => s
    | .on => s
    | .fault _ => s
  else
    match s.coolant.through with
    | .priming => s.updCoolant (fun c => { c with through := .waitSpindle, throughPump := false, primeTimer := none })
    | .on => s.updCoolant (fun c => { c with through := .waitSpindle, throughPump := false, lossTimer := none })
    | .off => s
    | .waitSpindle => s
    | .fault _ => s

/-- A measurement is delivered to the standstill watch, the at-speed watch and the coolant unit (R139). -/
def State.measure (s : State) (speed : Nat) : State :=
  ((s.updSpindle (fun sp => { sp with measured := speed }.standstillMeasure)).atSpeedTest).coolantMeasure

/-- COOLANT OFF (R168, step 1). -/
def State.coolantOff (s : State) : State :=
  s.updCoolant (fun c =>
    { c with
      mode := .off, flood := .off, through := .off, floodPump := false, throughPump := false, primeTimer := none,
      lossTimer := none })

/-- An element in FAULT goes to OFF with its cause removed (R168, step 2). -/
def Coolant.clearFaults (c : Coolant) : Coolant :=
  { c with
    flood := if c.flood.isFault then .off else c.flood
    through := if c.through.isFault then .off else c.through }

/-- The flood element brought to a mode (R163, R168). -/
def Coolant.bringFlood (c : Coolant) : Coolant :=
  if c.mode.flooding then { c with flood := .on, floodPump := true } else { c with flood := .off, floodPump := false }

/-- The through element brought to a mode other than OFF (R168). -/
def State.bringThrough (s : State) : State :=
  if s.coolant.mode.throughSpindle then
    match s.coolant.through with
    | .off =>
      if s.config.tscMinSpeed.toNat ≤ s.spindle.measured then s.enterPriming
      else s.updCoolant (fun c => { c with through := .waitSpindle })
    | .waitSpindle => s
    | .priming => s
    | .on => s
    | .fault _ => s
  else
    s.updCoolant (fun c => { c with through := .off, throughPump := false, primeTimer := none, lossTimer := none })

/-- A mode is taken (R168). -/
def State.takeMode (s : State) (m : CoolantMode) : State :=
  match m with
  | .off => s.coolantOff
  | .flood => (s.updCoolant (fun c => ({ c.clearFaults with mode := .flood } : Coolant).bringFlood)).bringThrough
  | .through => (s.updCoolant (fun c => ({ c.clearFaults with mode := .through } : Coolant).bringFlood)).bringThrough
  | .both => (s.updCoolant (fun c => ({ c.clearFaults with mode := .both } : Coolant).bringFlood)).bringThrough

/-- Whether a mode can be taken: OFF always, another unless the level is low (R37, R168 check 4). -/
def State.modeAllowed (s : State) (m : CoolantMode) : Bool := decide (m = .off) || !s.inputs.lowLevel

/-- The through element faults: pump off, timers stopped, COOLANT FAULT to the holder (R165, R167). -/
def State.throughFault (s : State) (cause : CoolantCause) : State :=
  (s.updCoolant (fun c =>
    { c with through := .fault cause, throughPump := false, primeTimer := none, lossTimer := none })).raiseHolder .coolant
      (.coolantFault cause)

/-- The level is low: each element not in FAULT enters FAULT LOW_LEVEL, its pump off and both timers stopped; one event is
raised if an element entered FAULT (R166, R167). -/
def State.coolantLowLevel (s : State) : State :=
  if s.coolant.flood.isFault && s.coolant.through.isFault then
    s.updCoolant (fun c => { c with primeTimer := none, lossTimer := none })
  else
    (s.updCoolant (fun c =>
      { c with
        flood := if c.flood.isFault then c.flood else .fault .lowLevel
        through := if c.through.isFault then c.through else .fault .lowLevel
        floodPump := false, throughPump := false, primeTimer := none, lossTimer := none })).raiseHolder .coolant
          (.coolantFault .lowLevel)

/-- The coolant unit when the machine enters ESTOP (R170). -/
def State.coolantEstop (s : State) : State :=
  s.updCoolant (fun c =>
    { c with
      mode := .off
      flood := if c.flood.isFault then c.flood else .off
      through := if c.through.isFault then c.through else .off
      floodPump := false, throughPump := false, primeTimer := none, lossTimer := none })

/-- The coolant unit at a MACHINE RESET (R169). -/
def State.coolantReset (s : State) : State :=
  if (s.coolant.flood.isFault || s.coolant.through.isFault) && !s.inputs.lowLevel then s.coolantOff else s

/-- The pressure switch (R165). -/
def State.coolantPressure (s : State) (active : Bool) : State :=
  match s.coolant.through, active with
  | .priming, true => s.updCoolant (fun c => { c with through := .on, primeTimer := none })
  | .on, true => s.updCoolant (fun c => { c with lossTimer := none })
  | .on, false => s.updCoolant (fun c => { c with lossTimer := timerOf s.config.tscLoss })
  | _, _ => s

/-- A change of the tachometer with the measurement it makes, if it makes one, delivered (R139). -/
def deliver (r : State × Option Nat) : State :=
  match r.2 with
  | none => r.1
  | some v => r.1.measure v

/-- The through pressure switch changes (R165). -/
def State.coolantPressureChange (s : State) (active : Bool) : State :=
  ({ s with inputs := { s.inputs with coolantPressure := active } } : State).coolantPressure active

/-- The low-level switch changes (R166). -/
def State.lowLevelChange (s : State) (active : Bool) : State :=
  let t : State := { s with inputs := { s.inputs with lowLevel := active } }
  if active && !s.inputs.lowLevel && decide (s.machine ≠ .start) then t.coolantLowLevel else t

/-- The prime timer expires (R165). -/
def State.primeExpiry (s : State) : State :=
  if s.coolant.primeTimer.isSome then s.throughFault .primeTimeout else s

/-- The loss timer expires (R165). -/
def State.lossExpiry (s : State) : State :=
  if s.coolant.lossTimer.isSome then s.throughFault .pressureLost else s

/-- COOLANT (R168). -/
def State.effCoolant (s : State) (p : Port) (bs : List Byte) : Effect :=
  match bs with
  | [mode] =>
    match CoolantMode.ofCode mode.toNat with
    | none => .refuse .badParam
    | some m =>
      if !s.hasClaim p .coolant then .refuse .notHeld
      else if s.machine ≠ .run ∧ (m ≠ .off ∨ s.machine = .start) then .refuse .notReady
      else if !s.modeAllowed m then .refuse .state
      else
        let t := s.takeMode m
        .taken t [enc1 t.coolant.mode.code, enc1 t.coolant.flood.code, enc1 t.coolant.through.code]
  | _ => .refuse .badParam

end Sys2Proof.Machine
end

