-- ==== Sys2Proof/Machine/Clamps.lean ====
section
/-! DEFINITION. Machine/Clamps.lean: axis faults (R74, R75), the clamp units and the hydraulic unit
(07_hydraulic_unit_and_axis_clamps.md, R120 to R137). -/

namespace Sys2Proof.Machine

/-! ### Engaging -/

/-- A clamp enters ENGAGING: valve off, auto flag cleared, engage timer started (R129, R132); the hand-released flag and a
pending distance go with it (R115, R117). -/
def State.setEngaging (s : State) (a : Axis) : State :=
  (s.updClamp a (fun _ =>
    { state := .engaging, valve := false, auto := false, timer := timerOf (s.config.axes.get a).clampEngageLimit })).updHand a
      (fun h => { h with pending := 0, handReleased := false })

/-- An engage request (R129): taken in RELEASE_WAIT, RELEASING and RELEASED; a clamp in another state is left as it is. -/
def State.engageRequest (s : State) (a : Axis) : State :=
  if (s.clamps.get a).state.demands then s.setEngaging a else s

/-- An engage request made only on a clamp that carries the auto flag (R132). -/
def State.engageIfAuto (s : State) (a : Axis) : State :=
  if (s.clamps.get a).auto then s.engageRequest a else s

/-- The engage request of a queue for one axis of a motion entry (R33, R34): on a clamp that carries the auto flag, and only where the
axis is standing or has faulted, as R129 says of every request of a queue (log entry 36). -/
def State.engageAtRest (s : State) (a : Axis) : State :=
  if s.standing a || (s.axes.get a).fault.isSome then s.engageIfAuto a else s

/-! ### Axis faults -/

/-- The axis unit ends a take-up and latches a cause; the hand pending distance is zeroed (R74, R75). -/
def State.latchFault (s : State) (a : Axis) (c : AxisCause) : State :=
  ((s.updAxis a (fun u => { u with fault := some c, takeUp := none })).raiseHolder (.axis a) (.axisFault a c)).updHand a
    (fun h => { h with pending := 0 })

/-- A cause of an axis fault arises (R74, R75): the first cause is kept. The abrupt stop of the axis's move follows when the
queues are settled. -/
def State.axisFault (s : State) (a : Axis) (c : AxisCause) : State :=
  if (s.axes.get a).fault.isSome then s else (s.latchFault a c).engageRequest a

/-! ### Clamp faults and losses -/

/-- A clamp leaves RELEASED under a moving axis (R131). -/
def State.lossUnder (s : State) (a : Axis) : Bool :=
  decide ((s.clamps.get a).state = .released) && !s.standing a

/-- A clamp enters FAULT: valve off, auto flag cleared, timer stopped, CLAMP FAULT to the holder (R128 to R130), and the
follower's distance and flag go with it (R115, R117). -/
def State.setClampFault (s : State) (a : Axis) (c : ClampCause) : State :=
  ((s.updClamp a (fun _ => { state := .fault c, valve := false, auto := false, timer := none })).raiseHolder (.axis a)
    (.clampFault a c)).updHand a (fun h => { h with pending := 0, handReleased := false })

/-- A clamp fails; a moving axis under it faults CLAMP after the CLAMP FAULT (R131). -/
def State.clampFails (s : State) (a : Axis) (c : ClampCause) : State :=
  if s.lossUnder a then (s.setClampFault a c).axisFault a .clamp else s.setClampFault a c

/-- A clamp in the demand set drops to ENGAGING; `was` is the state in which moving is judged (R124, R131, R135). -/
def State.dropClamp (was s : State) (a : Axis) : State :=
  if (was.clamps.get a).state.demands then
    if was.lossUnder a then (s.setEngaging a).axisFault a .clamp else s.setEngaging a
  else s

/-- Every clamp in RELEASE_WAIT, RELEASING or RELEASED drops to ENGAGING (R124, R135). -/
def State.dropClamps (was s : State) : State := Axis.all.foldl (fun t a => State.dropClamp was t a) s

/-! ### The hydraulic unit -/

/-- Pump off and every timer stopped, in OFF. -/
def Hyd.stopped : Hyd := { state := .off, pump := false, startTimer := none, dipTimer := none, runonTimer := none }

/-- A port holds at least one axis or SPINDLE (R124). -/
def State.holdsHydraulic (s : State) (p : Port) : Bool :=
  Axis.all.any (fun a => s.hasClaim p (.axis a)) || s.hasClaim p .spindle

/-- The unit enters LOST (R124). -/
def State.hydLost (s : State) : State :=
  let t := (s.updHyd (fun _ => { Hyd.stopped with state := .lost })).raiseWhere s.holdsHydraulic .hydraulicLost
  let t := State.dropClamps s t
  if s.spindle.state.demands then t.spindleFault .hydraulic else t

/-- The unit follows its demand set (R121 to R123). -/
def State.hydFollow (s : State) : State :=
  match s.hyd.state with
  | .off =>
    if s.demand && (decide (s.machine = .run) || decide (s.machine = .resetWait)) then
      if s.inputs.hydPressure then s.updHyd (fun h => { h with state := .up, pump := true, startTimer := none })
      else s.updHyd (fun h => { h with state := .starting, pump := true, startTimer := timerOf s.config.hydStartLimit })
    else s
  | .starting => if s.demand then s else s.updHyd (fun _ => Hyd.stopped)
  | .up =>
    if s.demand then s.updHyd (fun h => { h with runonTimer := none })
    else if s.hyd.runonTimer.isSome then s
    else if s.config.hydRunon = 0 then s.updHyd (fun _ => Hyd.stopped)
    else s.updHyd (fun h => { h with runonTimer := timerOf s.config.hydRunon })
  | .lost => s

/-- The pressure switch (R122, R123); it is not watched in OFF and LOST. -/
def State.hydPressure (s : State) (active : Bool) : State :=
  match s.hyd.state, active with
  | .starting, true => s.updHyd (fun h => { h with state := .up, startTimer := none })
  | .starting, false => s
  | .up, true => s.updHyd (fun h => { h with dipTimer := none })
  | .up, false => s.updHyd (fun h => { h with dipTimer := timerOf s.config.hydDip })
  | .off, _ => s
  | .lost, _ => s

/-! ### Releasing -/

/-- The state a release request gives a clamp in ENGAGED or ENGAGING, by the hydraulic unit's state; none where it is refused
(R127). -/
def State.releaseTarget (s : State) : Option (ClampState × Bool) :=
  match s.hyd.state with
  | .up => some (.releasing, true)
  | .off => some (.releaseWait, false)
  | .starting => some (.releaseWait, false)
  | .lost => none

/-- A clamp in ENGAGED or ENGAGING takes a release request (R127). -/
def State.startRelease (s : State) (a : Axis) (auto : Bool) : State :=
  match s.releaseTarget with
  | none => s
  | some (st, valve) =>
    s.updClamp a (fun _ =>
      { state := st, valve := valve, auto := auto
        timer := if valve then timerOf (s.config.axes.get a).clampReleaseLimit else none })

/-- An automatic release request: from a motion head or the hand follower (R127). -/
def State.releaseAuto (s : State) (a : Axis) : State :=
  match (s.clamps.get a).state with
  | .engaged => s.startRelease a true
  | .engaging => s.startRelease a true
  | .releaseWait => s
  | .releasing => s
  | .released => s
  | .fault _ => s

/-- The auto flag and with it the hand-released flag are cleared (R117, R132). -/
def State.clearAuto (s : State) (a : Axis) : State :=
  (s.updClamp a (fun c => { c with auto := false })).updHand a (fun h => { h with handReleased := false })

/-- A direct release request: from a CLAMP command or entry (R127, R132). -/
def State.releaseDirect (s : State) (a : Axis) : State :=
  match (s.clamps.get a).state with
  | .engaged => (s.startRelease a false).clearAuto a
  | .engaging => (s.startRelease a false).clearAuto a
  | .releaseWait => s.clearAuto a
  | .releasing => s.clearAuto a
  | .released => s.clearAuto a
  | .fault _ => s

/-- A direct request of an action (R38, R134). -/
def State.clampRequest (s : State) (action : ClampAction) (a : Axis) : State :=
  match action with
  | .engage => (s.clearAuto a).engageRequest a
  | .release => s.releaseDirect a

/-! ### What a clamp does as soon as its conditions hold -/

/-- RELEASE_WAIT passes to RELEASING with the unit UP (R128). -/
def State.clampPressure (s : State) (a : Axis) : State :=
  if (s.clamps.get a).state = .releaseWait ∧ s.hyd.state = .up then
    s.updClamp a (fun c =>
      { c with state := .releasing, valve := true, timer := timerOf (s.config.axes.get a).clampReleaseLimit })
  else s

/-- RELEASING and ENGAGING end when the switches agree (R128, R129). -/
def State.clampAgree (s : State) (a : Axis) : State :=
  match (s.clamps.get a).state with
  | .releasing => if s.agreeReleased a then s.updClamp a (fun c => { c with state := .released, timer := none }) else s
  | .engaging =>
    if s.agreeEngaged a then
      (s.updClamp a (fun c => { c with state := .engaged, auto := false, timer := none })).updHand a
        (fun h => { h with handReleased := false })
    else s
  | .engaged => s
  | .releaseWait => s
  | .released => s
  | .fault _ => s

/-- A clamp's own transitions; during START the switches are not judged (R126). -/
def State.clampFollow (s : State) (a : Axis) : State :=
  if s.machine = .start then s else (s.clampPressure a).clampAgree a

/-- The five clamps in the order X to B. -/
def State.clampsFollow (s : State) : State := Axis.all.foldl State.clampFollow s

/-- A debounced change of a clamp switch: the watches of RELEASED and ENGAGED (R130). -/
def State.clampWatch (s : State) (a : Axis) (which : ClampSwitch) (active : Bool) : State :=
  match (s.clamps.get a).state, which, active with
  | .released, .released, false => s.clampFails a .switch
  | .engaged, .engaged, false => s.clampFails a .switch
  | _, _, _ => s

/-! ### Emergency stop, MACHINE RESET and the end of START -/

/-- The hydraulic unit and the clamps at an emergency stop (R135). -/
def State.clampsEstop (was s : State) : State := State.dropClamps was (s.updHyd (fun _ => Hyd.stopped))

/-- The hydraulic unit at a MACHINE RESET (R125). -/
def State.hydReset (s : State) : State := if s.hyd.state = .lost then s.updHyd (fun _ => Hyd.stopped) else s

/-- A clamp in FAULT reads its switches at a MACHINE RESET (R136). -/
def State.clampReset (s : State) (a : Axis) : State :=
  if (s.clamps.get a).state.isFault && s.agreeEngaged a then
    s.updClamp a (fun _ => { state := .engaged, valve := false, auto := false, timer := none })
  else s

/-- START ends for a clamp: its engage timer starts (R126); it looks at its switches when the units are settled. -/
def State.clampStart (s : State) (a : Axis) : State :=
  s.updClamp a (fun c => { c with timer := timerOf (s.config.axes.get a).clampEngageLimit })

/-! ### CLAMP (R133, R134) -/

/-- CLAMP with its fields decoded: checks 2 to 6 (R133) and its effect (R134). -/
def State.takeClamp (s : State) (p : Port) (as : List Axis) (action : ClampAction) : Effect :=
  if !as.all (fun a => s.hasClaim p (.axis a)) then .refuse .notHeld
  else if action = .release ∧ s.machine ≠ .run then .refuse .notReady
  else if as.any (fun a => (s.clamps.get a).state.isFault) then .refuse .clamped
  else
    match action with
    | .engage =>
      if as.all (fun a => s.standing a && !(s.queues.get p).names (.axis a)) then
        .taken (as.foldl (fun t a => t.clampRequest .engage a) s) []
      else .refuse .busy
    | .release =>
      if s.hyd.state = .lost ∧
          as.any (fun a => decide ((s.clamps.get a).state = .engaged) || decide ((s.clamps.get a).state = .engaging)) then
        .refuse .hydraulic
      else .taken (as.foldl (fun t a => t.clampRequest .release a) s) []

/-- CLAMP (R133). -/
def State.effClamp (s : State) (p : Port) (bs : List Byte) : Effect :=
  match bs with
  | [set, act] =>
    match decAxisSet set, decAction act with
    | some as, some action => if as.isEmpty then .refuse .badParam else s.takeClamp p as action
    | _, _ => .refuse .badParam
  | _ => .refuse .badParam

end Sys2Proof.Machine
end

