-- ==== Sys2Proof/Machine/Zones.lean ====
section
/-! DEFINITION. Machine/Zones.lean: the soft limits, the reach limit and the zone table: the tests for queue entries, PRESET and
hand motion, and the zone commands (05_travel_limits_and_keep_out_zones.md, R94 to R108). -/

namespace Sys2Proof.Machine

/-! ### Points, boxes and limits -/

/-- The delta of an axis in a move, if the move names it. -/
def pairDelta : List Pair → Axis → Option Int
  | [], _ => none
  | q :: qs, a => if q.axis = a then some q.delta else pairDelta qs a

/-- The interval from one position to another, the lower first (R97). -/
def spanOf (p q : Int) : Interval := { lo := min p q, hi := max p q }

/-- The end point of a move from the given positions (R100). -/
def endPoint (pos : PerAxis Int) (ps : List Pair) : PerAxis Int :=
  .ofFn (fun a => pos.get a + (pairDelta ps a).getD 0)

/-- The box of a move from the given positions (R97). -/
def moveBox (pos : PerAxis Int) (ps : List Pair) : PerAxis Interval :=
  .ofFn (fun a => spanOf (pos.get a) ((endPoint pos ps).get a))

/-- Two closed intervals have a position in common (R97). -/
def Interval.overlaps (i j : Interval) : Bool := decide (i.lo ≤ j.hi) && decide (j.lo ≤ i.hi)

/-- A position lies in a closed interval. -/
def Interval.holds (i : Interval) (p : Int) : Bool := decide (i.lo ≤ p) && decide (p ≤ i.hi)

/-- A box meets a zone (R97). -/
def boxMeets (box : PerAxis Interval) (z : Zone) : Bool :=
  Axis.all.all (fun a =>
    match PerAxis.get z a with
    | none => true
    | some i => (box.get a).overlaps i)

/-- A point is inside a zone (R97). -/
def pointInside (pos : PerAxis Int) (z : Zone) : Bool :=
  Axis.all.all (fun a =>
    match PerAxis.get z a with
    | none => true
    | some i => i.holds (pos.get a))

/-- The present commanded positions. -/
def State.positions (s : State) : PerAxis Int := .ofFn (fun a => (s.axes.get a).cmd)

/-- The zones in use. -/
def State.zonesInUse (s : State) : List Zone := s.zones.filterMap (fun o => o.map (·.zone))

/-- The boxes of the FEED, RAPID and PROBE entries in EXECUTING (R98). -/
def State.executingBoxes (s : State) : List (PerAxis Interval) :=
  Port.all.filterMap (fun p => (s.moves.get p).bind (·.box))

/-- A position is within an axis's soft limits (R94). -/
def State.withinSoft (s : State) (a : Axis) (p : Int) : Bool :=
  decide ((s.config.axes.get a).softMin ≤ p) && decide (p ≤ (s.config.axes.get a).softMax)

/-- A sum Z + W satisfies the reach limit (R95). -/
def State.withinReach (s : State) (sum : Int) : Bool :=
  decide (s.config.reachMin ≤ sum) && decide (sum ≤ s.config.reachMax)

/-- Both Z and W are referenced (R95). -/
def State.reachApplies (s : State) : Bool := (s.axes.get .z).referenced && (s.axes.get .w).referenced

/-! ### Queue entries (R100) -/

/-- The soft limits of each referenced axis of a move at its end (R100, test 1). -/
def State.softTest (s : State) (pos : PerAxis Int) (ps : List Pair) : Bool :=
  ps.all (fun q => !(s.axes.get q.axis).referenced || s.withinSoft q.axis (pos.get q.axis + q.delta))

/-- The reach limit at the end point of a move that names Z or W (R100, test 2). -/
def State.reachTest (s : State) (pos : PerAxis Int) (ps : List Pair) : Bool :=
  !ps.any (fun q => decide (q.axis = .z) || decide (q.axis = .w)) || !s.reachApplies ||
    s.withinReach ((endPoint pos ps).get .z + (endPoint pos ps).get .w)

/-- The move box meets no evaluated zone (R100, test 3). -/
def State.zoneTest (s : State) (pos : PerAxis Int) (ps : List Pair) : Bool :=
  s.zonesInUse.all (fun z => !s.evaluated z || !boxMeets (moveBox pos ps) z)

/-- The three tests on a move from the given positions, the first failure giving the result (R100). -/
def State.moveTest (s : State) (pos : PerAxis Int) (ps : List Pair) : Option EntryError :=
  if s.softTest pos ps && s.reachTest pos ps then (if s.zoneTest pos ps then none else some .zone) else some .limit

/-! ### PRESET (R107) -/

/-- A zone will be evaluated once an axis is referenced (R107). -/
def State.evaluatedWith (s : State) (a : Axis) (z : Zone) : Bool :=
  Axis.all.all (fun c => (PerAxis.get z c).isNone || decide (c = a) || (s.axes.get c).referenced)

/-- The axis whose position adds to an axis's own in the reach (R95). -/
def reachPartner : Axis → Option Axis
  | .z => some .w
  | .w => some .z
  | .x => none
  | .y => none
  | .b => none

/-- The reach limit at a preset point, where the partner is referenced (R107, test 2). -/
def State.presetReach (s : State) (a : Axis) (v : Int) : Bool :=
  match reachPartner a with
  | none => true
  | some o => !(s.axes.get o).referenced || s.withinReach (v + (s.axes.get o).cmd)

/-- The tests on a preset point (R107). -/
def State.presetTest (s : State) (a : Axis) (v : Int) : Option ResultCode :=
  if s.withinSoft a v && s.presetReach a v then
    if s.zonesInUse.all (fun z =>
        !s.evaluatedWith a z ||
          (!pointInside (s.positions.set a v) z &&
            (s.evaluated z || s.executingBoxes.all (fun box => !boxMeets box z)))) then none
    else some .zone
  else some .limit

/-! ### Hand motion (R108) -/

/-- The reach bound on an upward hand motion (R108); the target where none applies. -/
def State.reachUp (s : State) (a : Axis) (g : Int) : Int :=
  match reachPartner a with
  | none => g
  | some o =>
    if s.reachApplies then
      if (s.axes.get a).cmd + (s.axes.get o).cmd ≤ s.config.reachMax then s.config.reachMax - (s.axes.get o).cmd
      else (s.axes.get a).cmd
    else g

/-- The reach bound on a downward hand motion (R108); the target where none applies. -/
def State.reachDown (s : State) (a : Axis) (g : Int) : Int :=
  match reachPartner a with
  | none => g
  | some o =>
    if s.reachApplies then
      if s.config.reachMin ≤ (s.axes.get a).cmd + (s.axes.get o).cmd then s.config.reachMin - (s.axes.get o).cmd
      else (s.axes.get a).cmd
    else g

/-- A zone contains the present T of every axis of its mask other than one (R108). -/
def State.othersInside (s : State) (a : Axis) (z : Zone) : Bool :=
  Axis.all.all (fun c =>
    match PerAxis.get z c with
    | none => true
    | some i => decide (c = a) || i.holds (s.axes.get c).cmd)

/-- The bound of a zone on an upward hand motion, if it sets one (R108). -/
def State.zoneUp (s : State) (a : Axis) (z : Zone) : Option Int :=
  match PerAxis.get z a with
  | none => none
  | some i =>
    if s.evaluated z && decide ((s.axes.get a).cmd < i.lo) && !pointInside s.positions z && s.othersInside a z then
      some (i.lo - 1)
    else none

/-- The bound of a zone on a downward hand motion, if it sets one (R108). -/
def State.zoneDown (s : State) (a : Axis) (z : Zone) : Option Int :=
  match PerAxis.get z a with
  | none => none
  | some i =>
    if s.evaluated z && decide (i.hi < (s.axes.get a).cmd) && !pointInside s.positions z && s.othersInside a z then
      some (i.hi + 1)
    else none

/-- The smallest of a bound and the bounds of a list. -/
def minOver (v : Int) : List Int → Int
  | [] => v
  | x :: xs => min x (minOver v xs)

/-- The largest of a bound and the bounds of a list. -/
def maxOver (v : Int) : List Int → Int
  | [] => v
  | x :: xs => max x (maxOver v xs)

/-- The allowed position of a referenced axis from T to a target (R108). -/
def State.allowedPosition (s : State) (a : Axis) (g : Int) : Int :=
  let t := (s.axes.get a).cmd
  let par := s.config.axes.get a
  if t < g then
    minOver g ([if t ≤ par.softMax then par.softMax else t, s.reachUp a g] ++ s.zonesInUse.filterMap (s.zoneUp a))
  else
    maxOver g ([if par.softMin ≤ t then par.softMin else t, s.reachDown a g] ++ s.zonesInUse.filterMap (s.zoneDown a))

/-! ### Changes of the table -/

/-- A completed reference search takes the zones it makes evaluated out of the table where they meet an executing box
(R99). -/
def State.removeZonesOnReference (s : State) (a : Axis) : State :=
  { s with
    zones := s.zones.map (fun o =>
      match o with
      | none => none
      | some t =>
        if (PerAxis.get t.zone a).isSome && s.evaluated t.zone && s.executingBoxes.any (fun box => boxMeets box t.zone) then none
        else some t) }

/-- The lowest-numbered free slot. -/
def firstFree : List (Option Slot) → Option Nat
  | [] => none
  | none :: _ => some 0
  | some _ :: rest => (firstFree rest).map (· + 1)

/-- The table with the pinned list in slots 0 upward and every other slot free (R96, R106). -/
def placePinned (zs : List Zone) : List (Option Slot) :=
  zs.map (fun z => some { pinned := true, zone := z }) ++ List.replicate (16 - zs.length) none

/-! ### ZONE SET, ZONE CLEAR, ZONE PURGE and READ ZONES -/

/-- Check 3 of ZONE SET (R101). -/
def State.zoneSetClear (s : State) (z : Zone) : Bool :=
  !s.evaluated z || (!pointInside s.positions z && s.executingBoxes.all (fun box => !boxMeets box z))

/-- The table and the pinned list with a zone put in a slot (R102). -/
def State.placeZone (s : State) (n : Nat) (pinned : Bool) (z : Zone) : State :=
  { s with
    zones := s.zones.set n (some { pinned := pinned, zone := z })
    config := { s.config with pinned := if pinned then s.config.pinned ++ [z] else s.config.pinned } }

/-- ZONE SET with its fields decoded: checks 2 to 4 (R101) and its effect (R102). -/
def State.takeZone (s : State) (p : Port) (pinned : Bool) (z : Zone) : Effect :=
  if pinned && !s.hasAllClaims p then .refuse .notHeld
  else if !s.zoneSetClear z then .refuse .state
  else
    match firstFree s.zones with
    | none => .refuse .full
    | some n => if pinned && decide (8 ≤ s.config.pinned.length) then .refuse .full else .taken (s.placeZone n pinned z) [enc1 n]

/-- ZONE SET (R101, R102). -/
def State.effZoneSet (s : State) (p : Port) (bs : List Byte) : Effect :=
  match bs with
  | mask :: flag :: rest =>
    match decFlag flag, decZone mask rest with
    | some pinned, some z => s.takeZone p pinned z
    | _, _ => .refuse .badParam
  | _ => .refuse .badParam

/-- ZONE CLEAR (R103). -/
def State.effZoneClear (s : State) (bs : List Byte) : Effect :=
  match bs with
  | [n] =>
    if n.toNat < 16 then
      match (s.zones[n.toNat]?).getD none with
      | none => .read [encFlag false]
      | some t =>
        if t.pinned then .refuse .state else .taken { s with zones := s.zones.set n.toNat none } [encFlag true]
    else .refuse .badParam
  | _ => .refuse .badParam

/-- A zone meets a purge box, which constrains only on the axes of both masks (R104). -/
def purgeMeets (box z : Zone) : Bool :=
  Axis.all.all (fun a =>
    match PerAxis.get box a, PerAxis.get z a with
    | some i, some j => i.overlaps j
    | _, _ => true)

/-- A slot that a purge frees (R104). -/
def purged (box : Zone) (o : Option Slot) : Bool :=
  match o with
  | none => false
  | some t => !t.pinned && purgeMeets box t.zone

/-- ZONE PURGE (R104). -/
def State.effZonePurge (s : State) (bs : List Byte) : Effect :=
  match bs with
  | mask :: rest =>
    match decZone mask rest with
    | none => .refuse .badParam
    | some box =>
      .taken { s with zones := s.zones.map (fun o => if purged box o then none else o) } [enc1 (s.zones.countP (purged box))]
  | [] => .refuse .badParam

/-- The report of one slot (R201). The byte of a free slot has the in-use and pinned bits clear (R96), and its bits 0 to 5 are sent clear as
well (DEDUCED, log entry 20). -/
def State.slotReport (s : State) (o : Option Slot) : List Byte :=
  match o with
  | none => [0]
  | some t =>
    enc1 (128 + (if t.pinned then 64 else 0) + (if s.evaluated t.zone then 32 else 0) +
        encBits (Axis.all.map (fun a => (PerAxis.get t.zone a).isSome))) ::
      Zone.encodeMasked t.zone

/-- The reports that fit whole, from the first on, and whether all do (R201). -/
def fitReports : Nat → List (List Byte) → List Byte × Bool
  | _, [] => ([], true)
  | room, r :: rs =>
    if r.length ≤ room then
      let more := fitReports (room - r.length) rs
      (r ++ more.1, more.2)
    else ([], false)

/-- READ ZONES (R105, R201). -/
def State.effReadZones (s : State) : Effect :=
  let reports := fitReports 253 (s.zones.map s.slotReport)
  .read (enc1 (s.config.pinned.length + if reports.2 then 0 else 128) :: reports.1)

end Sys2Proof.Machine
end

