-- ==== Sys2Proof/Machine/Path.lean ====
section
/-! DEFINITION. Machine/Path.lean: the path generator's arithmetic: a move's setup, its velocity ceiling, the advance of one
period and the interpolation (03_path_generation.md, R49 to R61). -/

namespace Sys2Proof.Machine

/-- The smallest of a list of numbers; 0 for none. -/
def minList : List Nat → Nat
  | [] => 0
  | [n] => n
  | n :: m :: rest => min n (minList (m :: rest))

/-- Axis rate cap c_j = floor(M_j·L_s / |D_j|) (R50). -/
def rateCap (len rate : Nat) (delta : Int) : Nat := rate * (256 * len) / delta.natAbs

/-- Axis acceleration cap g_j = floor(A_j·256·L / (1,000,000·|D_j|)) (R50). -/
def accelCap (len accel : Nat) (delta : Int) : Nat := accel * 256 * len / (1000000 * delta.natAbs)

/-- The axis list of a move set up now (R50). -/
def State.moveAxisList (s : State) (ps : List Pair) : List MoveAxis :=
  ps.map (fun q =>
    { axis := q.axis, delta := q.delta, start := (s.axes.get q.axis).cmd,
      rate := (s.config.axes.get q.axis).rateMax.toNat, accel := (s.config.axes.get q.axis).accel.toNat })

/-- The setup of a move (R50). -/
def State.setupMove (s : State) (tag : BitVec 16) (kind : MoveKind) (ps : List Pair) (len feedRate : Nat)
    (box : Option (PerAxis Interval)) : Move :=
  let js := s.moveAxisList ps
  { tag := tag, kind := kind, axes := js, len := len
    accel := max 1 (minList (js.map (fun j => accelCap len j.accel j.delta)))
    vAxes := minList (js.map (fun j => rateCap len j.rate j.delta))
    feedRate := feedRate, s := 0, v := 0, braking := false, stop := false, seen := false, box := box }

/-- The pair and the length of a REFERENCE move (R51). -/
def State.searchPair (s : State) (a : Axis) : Pair :=
  let par := s.config.axes.get a
  { axis := a, delta := if par.refDir = 0 then par.refSearchMax else -par.refSearchMax }

/-- The move of a motion entry, from the present positions and the working configuration (R50, R51, R98). A kind that moves
nothing gives an empty move, which no queue asks for. -/
def State.moveOf (s : State) (e : Entry) : Move :=
  match e.kind with
  | .feed ps len f _ => s.setupMove e.tag .feed ps len f (some (moveBox s.positions ps))
  | .rapid ps len _ => s.setupMove e.tag .rapid ps len 0 (some (moveBox s.positions ps))
  | .probe ps len f _ => s.setupMove e.tag .probe ps len f (some (moveBox s.positions ps))
  | .reference a =>
    s.setupMove e.tag .reference [s.searchPair a] (s.config.axes.get a).refSearchMax.toNat
      (s.config.axes.get a).refFeed.toNat none
  | .dwell _ => s.setupMove e.tag .feed [] 0 0 none
  | .spindle _ _ => s.setupMove e.tag .feed [] 0 0 none
  | .coolant _ => s.setupMove e.tag .feed [] 0 0 none
  | .clamp _ _ => s.setupMove e.tag .feed [] 0 0 none
  | .wait _ _ => s.setupMove e.tag .feed [] 0 0 none

/-- The feed term floor(F·256·fo / 6,000,000), taken as 1 where it comes to 0 while fo is above 0 (R53). -/
def feedTerm (feedRate fo : Nat) : Nat :=
  let v := feedRate * 256 * fo / 6000000
  if v = 0 ∧ 0 < fo then 1 else v

/-- The velocity ceiling of a move that is not held or stopped (R53). -/
def Move.freeCeiling (m : Move) (o : Overrides) : Nat :=
  match m.kind with
  | .feed => min m.vAxes (feedTerm m.feedRate o.feed)
  | .probe => min m.vAxes (feedTerm m.feedRate o.feed)
  | .rapid => m.vAxes * o.rapid / 100
  | .reference => min m.vAxes (feedTerm m.feedRate 100)

/-- v_cap (R53). -/
def Move.ceiling (m : Move) (o : Overrides) (held : Bool) : Nat :=
  if held || m.stop then 0 else m.freeCeiling o

/-- How a period leaves a move (R55, steps 5 to 7). -/
inductive MoveEnd where
  | goes | landed | short
  deriving DecidableEq, Repr

/-- The approach value p (R55, step 2). -/
def approach (v a cap : Nat) : Nat :=
  if v < cap then min (v + a) cap else if cap < v then max (v - a) cap else v

/-- One period of a move under a ceiling (R55). -/
def Move.advance (m : Move) (cap : Nat) : Move × MoveEnd :=
  let left := 256 * m.len - m.s
  let p := approach m.v m.accel cap
  let braking := m.braking || decide (2 * m.accel * left < p * (p + m.accel))
  let c := if braking then min p (max (m.v - m.accel) m.accel) else p
  if left ≤ c then ({ m with s := 256 * m.len, v := 0, braking := braking }, .landed)
  else if c = 0 && m.stop then ({ m with braking := braking }, .short)
  else ({ m with s := m.s + c, v := c, braking := braking }, .goes)

/-- The commanded position of an axis of a move (R58). DESIGN CHOICE (log entry 39): the product D·s is exact and without bound. R52 says
of its products that they are exact and that they are formed in 64-bit signed arithmetic, with |D| at most 10^8; R51 lets a REFERENCE
carry a |D| of REF_SEARCH_MAX, up to 2·10^8, with which D·s can pass 2^63. -/
def Move.position (m : Move) (j : MoveAxis) : Int := j.start + (j.delta * m.s).tdiv (256 * m.len)

/-- The commanded position that a move writes on an axis, if it names it. -/
def Move.written (m : Move) (a : Axis) : Option Int :=
  (m.axes.find? (fun j => decide (j.axis = a))).map m.position

/-- A stop request (R61). -/
def Move.requestStop (m : Move) : Move := { m with stop := true }

end Sys2Proof.Machine
end

