-- ==== Sys2Proof/Machine/Queue.lean ====
section
/-! DEFINITION. Machine/Queue.lean: the three program queues: judging a head, entries in progress, the ends of moves, the
probe latch, and the queue commands (02_program_queues.md, R18 to R48; 03_path_generation.md, R64 to R66). -/

namespace Sys2Proof.Machine

/-! ### Planned positions (R22 to R24) -/

/-- A rebase: each held axis's planned position becomes its T plus the deltas of the given entries (R23). -/
def State.rebase (s : State) (p : Port) (es : List Entry) : State :=
  { s with
    planned := s.planned.set p (.ofFn (fun a =>
      if s.hasClaim p (.axis a) then some ((s.axes.get a).cmd + deltaSum es a) else (s.planned.get p).get a)) }

/-- The position of each axis in a port's account: the planned position of an axis it holds, unless a REFERENCE entry excludes
it, and T otherwise (R21, R24). -/
def State.accountPositions (s : State) (p : Port) : PerAxis Int :=
  .ofFn (fun a =>
    if s.hasClaim p (.axis a) && !(s.queues.get p).excludes a then ((s.planned.get p).get a).getD (s.axes.get a).cmd
    else (s.axes.get a).cmd)

/-- The deltas of entries that leave the queue behind a moving head are taken off the planned positions, so that the law of R22 holds
while the head comes to rest (R43, log entry 32). -/
def State.unplan (s : State) (p : Port) (es : List Entry) : State :=
  { s with
    planned := s.planned.set p (.ofFn (fun a => ((s.planned.get p).get a).map (· - deltaSum es a))) }

/-- The deltas of an accepted entry are added to the planned positions (R23). -/
def State.planEntry (s : State) (p : Port) (e : Entry) : State :=
  { s with
    planned := s.planned.set p (.ofFn (fun a =>
      ((s.planned.get p).get a).map (· + (pairDelta e.kind.pairs a).getD 0))) }

/-! ### Parts of a head's end -/

/-- The move record of a queue is removed; a reference search ends with its move (R49, R92). -/
def State.dropMove (s : State) (p : Port) : State :=
  match s.moves.get p with
  | none => s
  | some m =>
    match m.kind with
    | .reference => m.axes.foldl (fun t j => t.updAxis j.axis (fun u => { u with search := .none })) (s.setMove p none)
    | .feed => s.setMove p none
    | .rapid => s.setMove p none
    | .probe => s.setMove p none

/-- A port owns the probe latch (R64). -/
def State.ownsLatch (s : State) (p : Port) : Bool :=
  match s.latch.owner with
  | some (q, _) => decide (q = p)
  | none => false

/-- A head that leaves or fails gives up the latch and its place in the waiting order (R64, R66). -/
def State.leaveLatch (s : State) (p : Port) : State :=
  { s with
    latch := { owner := if s.ownsLatch p then none else s.latch.owner, waiting := s.latch.waiting.filter (fun q => decide (q ≠ p)) } }

/-- Engage requests for the auto-flagged clamps of a motion entry's axes (R34). -/
def State.engageMove (s : State) (k : EntryKind) : State := k.moveAxes.foldl State.engageAtRest s

/-- The head is removed; the next entry, if there is one, becomes the head in STARTING (R26). -/
def Queue.pop (q : Queue) : Queue := { q with entries := q.entries.tail, head := .starting none, timer := none }

/-- A queue emptied (R43, R45, R46). -/
def Queue.emptied : Queue := { entries := [], head := .starting none, stop := .running, timer := none }

/-- A head fails (R41), without the offer of a freed latch: ENTRY FAILED, the latch given up, the engage requests of R34, the
rebase. -/
def State.failCore (s : State) (p : Port) (e : Entry) (c : EntryError) : State :=
  let t := ((s.dropMove p).updQueue p (fun q => { q with head := .failed c, timer := none })).raise p (.entryFailed e.tag c)
  let t := (t.leaveLatch p).engageMove e.kind
  t.rebase p (s.queues.get p).entries.tail

/-! ### Judging a head -/

/-- What a judgement gives. -/
inductive Verdict where
  | fails (c : EntryError)
  | waits (w : WaitStep)
  | passes
  deriving DecidableEq, Repr

/-- Whether an entry is a REFERENCE. -/
def EntryKind.isReference : EntryKind → Bool
  | .reference _ => true
  | _ => false

/-- Steps 1 to 8 for a motion head (R27, R28). -/
def State.judgeEarly (s : State) (p : Port) (k : EntryKind) : Verdict :=
  if !k.moveAxes.all (fun a => s.hasClaim p (.axis a)) then .fails .notHeld
  else if k.moveAxes.any (fun a => (s.axes.get a).fault.isSome) then .fails .axis
  else if !k.isReference && !k.moveAxes.all (fun a => (s.axes.get a).referenced) then .fails .notReferenced
  else if s.machine ≠ .run then .waits .run
  else if k.moveAxes.any (fun a => decide ((s.hands.get a).pending ≠ 0)) then .waits .hand
  else if k.moveAxes.any (fun a => (s.axes.get a).takeUp.isSome) then .waits .takeUp
  else if k.isReference then
    if k.moveAxes.any (fun a => (s.axes.get a).compEnabled) then .fails .state else .passes
  else
    match s.moveTest s.positions k.pairs with
    | some c => .fails c
    | none => .passes

/-- Step 9 for a motion head (R29). -/
def State.judgeClamps (s : State) (k : EntryKind) : Verdict :=
  let released := k.moveAxes.all (fun a => decide ((s.clamps.get a).state = .released))
  match k.policy with
  | .noClamp => if released then .passes else .fails .clamped
  | .auto =>
    if k.moveAxes.any (fun a => (s.clamps.get a).state.isFault) then .fails .clamped
    else if released then .passes
    else if s.hyd.state = .lost then .fails .hydraulic
    else .waits .clamps

/-- Steps 10 and 11 for a motion head (R27, R30, R64). -/
def State.judgeLate (s : State) (k : EntryKind) : Verdict :=
  if !s.holds.isEmpty then .waits .hold
  else if k.isProbe then
    if s.latch.owner.isSome then .waits .probeLatch
    else if s.inputs.probe then .fails .probeActive
    else .passes
  else .passes

/-- The judgement of a motion head (R27). -/
def State.judgeMotion (s : State) (p : Port) (k : EntryKind) : Verdict :=
  match s.judgeEarly p k with
  | .fails c => .fails c
  | .waits w => .waits w
  | .passes =>
    match s.judgeClamps k with
    | .fails c => .fails c
    | .waits w => .waits w
    | .passes => s.judgeLate k

/-- The judgement of a head that is not a motion entry (R31). -/
def State.judgeOther (s : State) (p : Port) (k : EntryKind) : Verdict :=
  if !k.names.all (s.hasClaim p) then .fails .notHeld
  else if s.machine ≠ .run then .waits .run
  else
    match k with
    | .clamp as action =>
      if as.any (fun a => (s.clamps.get a).state.isFault) then .fails .clamped
      else
        match action with
        | .release =>
          if as.any (fun a => decide ((s.clamps.get a).state ≠ .released)) && decide (s.hyd.state = .lost) then .fails .hydraulic
          else .passes
        | .engage => if as.all s.standing then .passes else .waits .standing
    | .feed _ _ _ _ => .passes
    | .rapid _ _ _ => .passes
    | .probe _ _ _ _ => .passes
    | .reference _ => .passes
    | .dwell _ => .passes
    | .spindle _ _ => .passes
    | .coolant _ => .passes
    | .wait _ _ => .passes

/-- The head waits at a step: a release request for each clamp of the move at step 9 (R29), a place in the waiting order at step
11, and none when it is halted before (R64). -/
def State.headWaits (s : State) (p : Port) (k : EntryKind) (w : WaitStep) : State :=
  let t := s.updQueue p (fun q => { q with head := .starting (some w) })
  match w with
  | .probeLatch =>
    { t with
      latch := { t.latch with waiting := if t.latch.waiting.contains p then t.latch.waiting else t.latch.waiting ++ [p] } }
  | .clamps => k.moveAxes.foldl State.releaseAuto (t.leaveLatch p)
  | .run => t.leaveLatch p
  | .hand => t.leaveLatch p
  | .takeUp => t.leaveLatch p
  | .hold => t.leaveLatch p
  | .standing => t.leaveLatch p

/-- A motion head enters EXECUTING: its move is set up (R32, R50), a PROBE takes the latch (R30), a REFERENCE clears the referenced
flag and begins its search (R90). -/
def State.enterMotion (s : State) (p : Port) (e : Entry) : State :=
  let t := (s.setMove p (some (s.moveOf e))).updQueue p (fun q => { q with head := .executing })
  match e.kind with
  | .probe _ _ _ _ =>
    { t with latch := { owner := some (p, e.tag), waiting := t.latch.waiting.filter (fun q => decide (q ≠ p)) } }
  | .reference a =>
    t.updAxis a (fun u => { u with referenced := false, search := if s.inputs.home.get a then .index else .search })
  | .feed _ _ _ _ => t
  | .rapid _ _ _ => t
  | .dwell _ => t
  | .spindle _ _ => t
  | .coolant _ => t
  | .clamp _ _ => t
  | .wait _ _ => t

/-- A motion head in STARTING is judged (R27). -/
def State.judgeMotionHead (s : State) (p : Port) (e : Entry) : State :=
  match s.judgeMotion p e.kind with
  | .fails c => s.failCore p e c
  | .waits w => s.headWaits p e.kind w
  | .passes => s.enterMotion p e

/-! ### The probe latch -/

/-- The head of a queue, if it is in STARTING. -/
def Queue.startingHead (q : Queue) : Option Entry :=
  match q.entries, q.head, q.stop with
  | e :: _, .starting _, .running => some e
  | _, _, _ => none

/-- A waiting head is offered the latch: judged from the top while the latch is FREE (R64). -/
def State.offerTo (s : State) (p : Port) : State :=
  if s.latch.owner.isSome then s
  else
    match (s.queues.get p).startingHead with
    | none => s
    | some e => if e.kind.isProbe then s.judgeMotionHead p e else s

/-- A freed latch is offered to the waiting order, the first one first (R64). -/
def State.offerLatch (s : State) : State := s.latch.waiting.foldl State.offerTo s

/-- A head in STARTING or EXECUTING fails, and a latch it held is offered (R41, R64). -/
def State.failHead (s : State) (p : Port) (e : Entry) (c : EntryError) : State :=
  if s.ownsLatch p then (s.failCore p e c).offerLatch else s.failCore p e c

/-! ### Heads that complete -/

/-- A head that is not a motion entry completes with ENTRY DONE OK (R26). -/
def State.finishHead (s : State) (p : Port) (e : Entry) : State :=
  (s.updQueue p Queue.pop).raise p (.entryDone e.tag false)

/-- A clamp of a completed move is kept for the new head: a FEED, RAPID or PROBE under AUTO that names its axis (R33). -/
def keptFor (a : Axis) (next : Option Entry) : Bool :=
  match next with
  | none => false
  | some e =>
    match e.kind with
    | .feed ps _ _ pol => decide (pol = .auto) && ps.any (fun q => decide (q.axis = a))
    | .rapid ps _ pol => decide (pol = .auto) && ps.any (fun q => decide (q.axis = a))
    | .probe ps _ _ pol => decide (pol = .auto) && ps.any (fun q => decide (q.axis = a))
    | .reference _ => false
    | .dwell _ => false
    | .spindle _ _ => false
    | .coolant _ => false
    | .clamp _ _ => false
    | .wait _ _ => false

/-- The look-ahead of a completed motion entry (R33). -/
def State.lookAhead (s : State) (p : Port) (k : EntryKind) : State :=
  k.moveAxes.foldl (fun t a => if keptFor a (s.queues.get p).entries.head? then t else t.engageAtRest a) s

/-- A REFERENCE that completes sets the referenced flag and takes zones out of the table (R92, R99). -/
def State.completeReference (s : State) (k : EntryKind) : State :=
  match k with
  | .reference a => (s.updAxis a (fun u => { u with referenced := true })).removeZonesOnReference a
  | _ => s

/-- A motion entry completes with ENTRY DONE (R32, R33): its record is removed, the next entry becomes head, the planned positions
are rebased where it came to rest short or is a REFERENCE, and the latch of a PROBE is offered. -/
def State.doneMotion (s : State) (p : Port) (e : Entry) (triggered short : Bool) : State :=
  let t := ((s.dropMove p).completeReference e.kind).updQueue p Queue.pop
  let t := t.raise p (.entryDone e.tag triggered)
  let t := if short || e.kind.isReference then t.rebase p (t.queues.get p).entries else t
  let t := (t.lookAhead p e.kind).leaveLatch p
  if s.ownsLatch p then t.offerLatch else t

/-! ### The ends of moves -/

/-- How the path generator reports the end of a move (R49). -/
inductive MoveReport where
  | landed | short | abrupt
  deriving DecidableEq, Repr

/-- The end of a move in a RUNNING queue (R32, R61, R66). -/
def State.endRunning (s : State) (p : Port) (e : Entry) (m : Move) (r : MoveReport) : State :=
  match r with
  | .abrupt => s.failHead p e .axis
  | .landed =>
    match m.kind with
    | .feed => s.doneMotion p e false false
    | .rapid => s.doneMotion p e false false
    | .probe => if m.seen then s.doneMotion p e true false else s.failHead p e .noTrigger
    | .reference => if m.seen then s.doneMotion p e false false else s.failHead p e .refFail
  | .short =>
    match m.kind with
    | .feed => s.failHead p e .flushed
    | .rapid => s.failHead p e .flushed
    | .probe => s.doneMotion p e true true
    | .reference => s.doneMotion p e false true

/-- The event of a head that leaves a STOPPING queue (R44): a landing completes it, TRIGGERED for a PROBE that has seen its edge and OK for
every other, a PROBE or a REFERENCE that has seen nothing among them (DEDUCED, log entry 22). -/
def stoppingEvent (e : Entry) (m : Move) (r : MoveReport) : Event :=
  match r with
  | .abrupt => .entryFailed e.tag .flushed
  | .short => .entryFailed e.tag .flushed
  | .landed => .entryDone e.tag (decide (m.kind = .probe) && m.seen)

/-- Whether a head that leaves a STOPPING queue completes a reference search: it lands with the capture made (R44, R92). -/
def stoppingReferences (m : Move) (r : MoveReport) : Bool :=
  decide (m.kind = .reference) && decide (r = .landed) && m.seen

/-- The end of a move in a queue STOPPING after FLUSH (R44). -/
def State.endFlushed (s : State) (p : Port) (e : Entry) (m : Move) (r : MoveReport) : State :=
  let t := s.dropMove p
  let t := if stoppingReferences m r then t.completeReference e.kind else t
  let t := (t.updQueue p (fun _ => Queue.emptied)).raise p (stoppingEvent e m r)
  let t := ((t.leaveLatch p).engageMove e.kind).rebase p []
  if s.ownsLatch p then t.offerLatch else t

/-- The silent end of a move in a queue STOPPING after a port loss (R46). -/
def State.endLost (s : State) (p : Port) : State :=
  let t := ((s.dropMove p).updQueue p (fun _ => Queue.emptied)).leaveLatch p
  if s.ownsLatch p then t.offerLatch else t

/-- The end of a move is reported to its queue (R32, R44, R46). -/
def State.endMove (s : State) (p : Port) (r : MoveReport) : State :=
  match s.moves.get p, (s.queues.get p).entries with
  | some m, e :: _ =>
    match (s.queues.get p).stop with
    | .running => s.endRunning p e m r
    | .flushed => s.endFlushed p e m r
    | .portLost => s.endLost p
  | _, _ => s

/-- A move is cut by a fault on one of its axes (R62). -/
def State.cutByFault (s : State) (p : Port) : Bool :=
  match s.moves.get p with
  | none => false
  | some m => m.axes.any (fun j => (s.axes.get j.axis).fault.isSome)

/-- The abrupt stop of a move cut by a fault (R62, R75). -/
def State.abruptStop (s : State) (p : Port) : State := if s.cutByFault p then s.endMove p .abrupt else s

/-! ### Entries that are not motion entries, in progress -/

/-- Whether a WAIT condition holds (R40). -/
def State.condHolds (s : State) (c : WaitCond) : Bool :=
  match c with
  | .atSpeed => decide (s.spindle.state = .running) && s.spindle.atSpeed
  | .spindleStopped => decide (s.spindle.state = .stopped)
  | .coolantReady =>
    (!s.coolant.mode.flooding || decide (s.coolant.flood = .on)) &&
      (!s.coolant.mode.throughSpindle || decide (s.coolant.through = .on))

/-- Whether and how a WAIT fails before its condition holds (R40). -/
def State.condFails (s : State) (c : WaitCond) : Option EntryError :=
  match c with
  | .atSpeed => if s.spindle.state.isFault then some .gear else none
  | .spindleStopped => none
  | .coolantReady =>
    if (s.coolant.mode.flooding && s.coolant.flood.isFault) || (s.coolant.mode.throughSpindle && s.coolant.through.isFault) then
      some .coolant
    else none

/-- The clamp state an action wants (R38). -/
def ClampAction.target : ClampAction → ClampState
  | .engage => .engaged
  | .release => .released

/-- A CLAMP or WAIT head in EXECUTING looks at what it watches (R38 to R40). -/
def State.watchHead (s : State) (p : Port) (e : Entry) : State :=
  match e.kind with
  | .clamp as action =>
    if as.all (fun a => decide ((s.clamps.get a).state = action.target)) then s.finishHead p e
    else if as.any (fun a => (s.clamps.get a).state.isFault) then s.failCore p e .clamped
    else if action = .release ∧ s.hyd.state = .lost then s.failCore p e .hydraulic
    else s
  | .wait c _ =>
    if s.condHolds c then s.finishHead p e
    else
      match s.condFails c with
      | some code => s.failCore p e code
      | none => s
  | .feed _ _ _ _ => s
  | .rapid _ _ _ => s
  | .probe _ _ _ _ => s
  | .reference _ => s
  | .dwell _ => s
  | .spindle _ _ => s
  | .coolant _ => s

/-- The head's sub-state becomes EXECUTING with its timer (R35, R39). -/
def State.startHead (s : State) (p : Port) (timer : Timer) : State :=
  s.updQueue p (fun q => { q with head := .executing, timer := timer })

/-- A head that is not a motion entry enters EXECUTING (R35 to R40). The shift that a SPINDLE entry starts passes HALT and HYD, where
nothing holds it there, before the next head is judged (R151): a GEAR FAULT then stands before that head's ENTRY FAILED (R185). -/
def State.enterOther (s : State) (p : Port) (e : Entry) : State :=
  match e.kind with
  | .dwell t => s.startHead p (some t)
  | .spindle speed dir =>
    if s.spindle.state.isFault then s.failCore p e .gear else ((s.takeTarget speed dir).finishHead p e).spindleFollow.spindleFollow
  | .coolant m => if s.modeAllowed m then (s.takeMode m).finishHead p e else s.failCore p e .coolant
  | .clamp as action => (as.foldl (fun t a => t.clampRequest action a) (s.startHead p none)).watchHead p e
  | .wait _ timeout => (s.startHead p (if timeout = 0 then none else some timeout)).watchHead p e
  | .feed _ _ _ _ => s
  | .rapid _ _ _ => s
  | .probe _ _ _ _ => s
  | .reference _ => s

/-- A head that is not a motion entry, in STARTING, is judged (R31). -/
def State.judgeOtherHead (s : State) (p : Port) (e : Entry) : State :=
  match s.judgeOther p e.kind with
  | .fails c => s.failCore p e c
  | .waits w => s.headWaits p e.kind w
  | .passes => s.enterOther p e

/-! ### One queue and the three queues -/

/-- What the head of a RUNNING queue does now: a head that has just become head, or that one of the events of R27 reaches, is
judged; a CLAMP or WAIT in progress is looked at. -/
def State.pumpHead (s : State) (p : Port) (trigger : Bool) : State :=
  match (s.queues.get p).entries, (s.queues.get p).stop with
  | e :: _, .running =>
    match (s.queues.get p).head with
    | .starting w =>
      if e.kind.isMotion then (if trigger || decide (w = none) then s.judgeMotionHead p e else s) else s.judgeOtherHead p e
    | .executing => if e.kind.isMotion then s else s.watchHead p e
    | .failed _ => s
  | _, _ => s

/-- A queue runs on while its heads complete in the same event (R26). -/
def State.pump : Nat → State → Port → Bool → State
  | 0, s, _, _ => s
  | n + 1, s, p, trigger =>
    let t := s.pumpHead p trigger
    if (t.queues.get p).entries.length < (s.queues.get p).entries.length then State.pump n t p false else t

/-- What R27 and R68 watch on one axis has changed. -/
def axisTrigger (old s : State) (a : Axis) : Bool :=
  decide ((old.axes.get a).fault ≠ (s.axes.get a).fault) ||
  decide ((old.axes.get a).referenced ≠ (s.axes.get a).referenced) ||
  decide ((old.axes.get a).compEnabled ≠ (s.axes.get a).compEnabled) ||
  decide ((old.axes.get a).takeUp ≠ (s.axes.get a).takeUp) ||
  decide ((old.clamps.get a).state ≠ (s.clamps.get a).state) ||
  decide (old.standing a ≠ s.standing a) ||
  (decide ((old.hands.get a).pending ≠ 0) && decide ((s.hands.get a).pending = 0))

/-- What R27 watches on one axis of the head itself has changed: its claim row and its limits. -/
def moveTrigger (old s : State) (a : Axis) : Bool :=
  decide (old.row (.axis a) ≠ s.row (.axis a)) ||
  decide ((old.config.axes.get a).softMin ≠ (s.config.axes.get a).softMin) ||
  decide ((old.config.axes.get a).softMax ≠ (s.config.axes.get a).softMax)

/-- One of the events on which a motion head in STARTING is judged again has come about between two states (R27, R68). -/
def State.trigger (old s : State) (p : Port) (k : EntryKind) : Bool :=
  decide (old.machine ≠ s.machine) || decide (old.holds ≠ s.holds) || decide (old.zones ≠ s.zones) ||
  decide (old.hyd.state ≠ s.hyd.state) || decide (old.inputs.probe ≠ s.inputs.probe) ||
  decide (old.config.reachMin ≠ s.config.reachMin) || decide (old.config.reachMax ≠ s.config.reachMax) ||
  (old.latch.owner.isSome && decide (old.latch.owner ≠ s.latch.owner)) ||
  Axis.all.any (fun a => (s.hasClaim p (.axis a) || k.moveAxes.contains a) && axisTrigger old s a) ||
  k.moveAxes.any (moveTrigger old s)

/-- Whether the head of a queue is to be judged again. -/
def State.headTrigger (old s : State) (p : Port) : Bool :=
  match (s.queues.get p).startingHead with
  | none => false
  | some e => State.trigger old s p e.kind

/-- A PROBE head that would take the FREE latch, or join the waiting order of an OWNED one, if it were judged now. -/
def State.probeContender (s : State) (p : Port) : Bool :=
  match (s.queues.get p).startingHead with
  | none => false
  | some e =>
    e.kind.isProbe &&
      (decide (s.judgeMotion p e.kind = .passes) ||
        (decide (s.judgeMotion p e.kind = .waits .probeLatch) && !s.latch.waiting.contains p))

/-- The order in which the queues are taken: Link 1 to Link 3, but for two or more PROBE heads that reach step 11 in the same
instant, with the latch FREE or OWNED, whose order R64 leaves open (log entry 12). -/
def State.pumpOrder (s : State) : List Port :=
  if 2 ≤ (Port.all.filter s.probeContender).length then (Config.judgeOrder s.choices).ports else Port.all

/-- A free value has been used where the order was open (log entry 30). -/
def State.pumpChoice (s : State) : State :=
  if 2 ≤ (Port.all.filter s.probeContender).length then { s with choices := s.choices + 1 } else s

/-- The queues act once: the moves cut by a fault end, then the heads are judged and watched. -/
def State.queuesFollow (old s : State) : State :=
  let t := Port.all.foldl State.abruptStop s
  t.pumpOrder.foldl (fun u p => State.pump 17 u p (State.headTrigger old u p)) t.pumpChoice

/-! ### QUEUE ENTRY (R20) -/

/-- Check 6 of QUEUE ENTRY for a motion entry (R20). -/
def State.entryReferenceCheck (s : State) (p : Port) (k : EntryKind) : Option ResultCode :=
  if !k.isReference && !k.moveAxes.all (fun a => (s.axes.get a).referenced) then some .notReferenced
  else if k.moveAxes.any (fun a => (s.queues.get p).entries.any (fun d => d.kind.isReferenceOf a)) then some .busy
  else none

/-- Check 7 of QUEUE ENTRY (R20, R21). -/
def State.entryTest (s : State) (p : Port) (k : EntryKind) : Option ResultCode :=
  if k.isReference then none
  else
    match s.moveTest (s.accountPositions p) k.pairs with
    | some .zone => some .zone
    | some _ => some .limit
    | none => none

/-- Checks 6 and 7 of QUEUE ENTRY, made on motion entries (R20). -/
def State.entryMotionCheck (s : State) (p : Port) (k : EntryKind) : Option ResultCode :=
  if k.isMotion then
    match s.entryReferenceCheck p k with
    | some c => some c
    | none => s.entryTest p k
  else none

/-- An accepted entry joins the tail of the queue; in an EMPTY queue it becomes the head in STARTING (R20). -/
def State.appendEntry (s : State) (p : Port) (e : Entry) : State :=
  (s.updQueue p (fun q =>
    match q.entries with
    | [] => { entries := [e], head := .starting none, stop := .running, timer := none }
    | d :: ds => { q with entries := d :: ds ++ [e] })).planEntry p e

/-- QUEUE ENTRY (R20). -/
def State.effQueueEntry (s : State) (p : Port) (bs : List Byte) : Effect :=
  if s.machine ≠ .run then .refuse .notReady
  else if (s.queues.get p).state = .stopping ∨ 16 ≤ (s.queues.get p).entries.length then .refuse .full
  else
    match decEntry bs with
    | none => .refuse .badParam
    | some e =>
      if !e.kind.names.all (s.hasClaim p) then .refuse .notHeld
      else
        match s.entryMotionCheck p e.kind with
        | some c => .refuse c
        | none => .taken (s.appendEntry p e) [enc1 ((s.queues.get p).entries.length + 1)]

/-! ### FLUSH, CONTINUE, READ QUEUE and READ PROBE -/

/-- QUEUE FLUSHED is raised when the count is at least 1 (R43, R45). -/
def State.raiseFlushed (s : State) (p : Port) (n : Nat) : State := if n = 0 then s else s.raise p (.queueFlushed n)

/-- The stop request of a queue's executing move (R61). -/
def State.stopMove (s : State) (p : Port) : State := s.setMove p ((s.moves.get p).map Move.requestStop)

/-- The head is a motion entry in EXECUTING. -/
def Queue.moving (q : Queue) : Bool :=
  match q.entries, q.head with
  | e :: _, .executing => e.kind.isMotion
  | _, _ => false

/-- A queue with an executing motion head is brought to STOPPING; every entry behind the head is removed (R43, R46). -/
def State.stopQueue (s : State) (p : Port) (cause : StopCause) : State :=
  (s.stopMove p).updQueue p (fun q => { q with entries := q.entries.take 1, stop := cause })

/-- Every entry is removed at once, and a waiting PROBE head leaves the waiting order (R43, R46, R64). -/
def State.clearQueue (s : State) (p : Port) : State := (s.updQueue p (fun _ => Queue.emptied)).leaveLatch p

/-- The engage requests for a motion head removed from STARTING (R34). -/
def State.engageStarting (s : State) (p : Port) : State :=
  match (s.queues.get p).startingHead with
  | none => s
  | some e => s.engageMove e.kind

/-- FLUSH (R43). -/
def State.effFlush (s : State) (p : Port) : Effect :=
  let q := s.queues.get p
  match q.state with
  | .empty => .read [0, encFlag false]
  | .stopping => .read [0, encFlag true]
  | .running =>
    if q.moving then
      .taken (((s.unplan p q.entries.tail).stopQueue p .flushed).raiseFlushed p (q.entries.length - 1)) [enc1 (q.entries.length - 1), encFlag true]
    else
      .taken ((((s.engageStarting p).clearQueue p).rebase p []).raiseFlushed p q.entries.length)
        [enc1 q.entries.length, encFlag false]
  | .stalled =>
    .taken (((s.clearQueue p).rebase p []).raiseFlushed p q.entries.length) [enc1 q.entries.length, encFlag false]

/-- CONTINUE (R42). -/
def State.effContinue (s : State) (p : Port) : Effect :=
  if (s.queues.get p).state = .stalled then
    .taken ((s.updQueue p Queue.pop).rebase p (s.queues.get p).entries.tail) []
  else .refuse .state

/-- The head's sub-state and what goes with it (R47). -/
def Queue.headReport (q : Queue) (e : Entry) : List Byte :=
  match q.head with
  | .starting none => [0, 0]
  | .starting (some w) => [0, enc1 w.bit]
  | .executing =>
    match e.kind with
    | .dwell _ => 1 :: enc4 (q.timer.getD 0 : Nat)
    | .wait _ _ =>
      match q.timer with
      | none => [1, 255, 255, 255, 255]
      | some t => 1 :: enc4 (t : Nat)
    | .feed _ _ _ _ => [1]
    | .rapid _ _ _ => [1]
    | .probe _ _ _ _ => [1]
    | .reference _ => [1]
    | .spindle _ _ => [1]
    | .coolant _ => [1]
    | .clamp _ _ => [1]
  | .failed c => [2, enc1 c.code]

/-- The planned position of one axis in READ QUEUE (R47, R201). -/
def State.plannedReport (s : State) (p : Port) (a : Axis) : List Byte :=
  if (s.queues.get p).excludes a then [enc1 (Axis.code a + 128), 0, 0, 0, 0]
  else enc1 (Axis.code a) :: enc4 (((s.planned.get p).get a).getD (s.axes.get a).cmd)

/-- READ QUEUE (R47). -/
def State.effReadQueue (s : State) (bs : List Byte) : Effect :=
  match bs with
  | [n] =>
    match Port.ofCode n.toNat with
    | none => .refuse .badParam
    | some p =>
      let q := s.queues.get p
      let held := Axis.all.filter (fun a => s.hasClaim p (.axis a))
      .read ([enc1 q.state.code, enc1 q.entries.length] ++
        q.entries.flatMap (fun e => enc2 e.tag.toNat ++ [enc1 e.kind.code]) ++
        (match q.entries with
          | [] => []
          | e :: _ => q.headReport e) ++
        enc1 held.length :: held.flatMap (s.plannedReport p))
  | _ => .refuse .badParam

/-- READ PROBE (R48). -/
def State.effReadProbe (s : State) (p : Port) : Effect :=
  let r := s.probes.get p
  .read (encFlag r.valid :: enc2 r.tag.toNat ++ r.positions.toList.flatMap enc4)

/-! ### Timers of heads -/

/-- The DWELL timer expires (R35): it runs while the hold-source set is empty. -/
def State.dwellExpiry (s : State) (p : Port) : State :=
  match (s.queues.get p).entries, (s.queues.get p).head, (s.queues.get p).stop with
  | e :: _, .executing, .running =>
    match e.kind with
    | .dwell _ => if s.holds.isEmpty && (s.queues.get p).timer.isSome then s.finishHead p e else s
    | _ => s
  | _, _, _ => s

/-- The WAIT timer expires (R39). -/
def State.waitExpiry (s : State) (p : Port) : State :=
  match (s.queues.get p).entries, (s.queues.get p).head, (s.queues.get p).stop with
  | e :: _, .executing, .running =>
    match e.kind with
    | .wait _ _ => if (s.queues.get p).timer.isSome then s.failCore p e .timeout else s
    | _ => s
  | _, _, _ => s

/-! ### Probe edge and emergency stop -/

/-- The owning port's record at the trigger (R48, R65). -/
def State.probeRecord (s : State) (tag : BitVec 16) : ProbeRecord :=
  { valid := true, tag := tag, positions := .ofFn (fun a => (s.axes.get a).meas) }

/-- A probe edge: it triggers the probing when the latch is OWNED and the seen mark clear (R65). -/
def State.probeTrigger (s : State) : State :=
  match s.latch.owner with
  | none => s
  | some (p, tag) =>
    match s.moves.get p with
    | none => s
    | some m =>
      if m.seen then s
      else { (s.setMove p (some { m with seen := true, stop := true })) with probes := s.probes.set p (s.probeRecord tag) }

/-- The number of entries of a queue other than an executing motion head (R45). -/
def Queue.others (q : Queue) : Nat := if q.moving then q.entries.length - 1 else q.entries.length

/-- ENTRY FAILED ESTOP for an executing motion head (R45). -/
def State.raiseEstop (s : State) (p : Port) : State :=
  match (s.queues.get p).entries with
  | [] => s
  | e :: _ => if (s.queues.get p).moving then s.raise p (.entryFailed e.tag .estop) else s

/-- One queue at an emergency stop (R45); a queue STOPPING after a port loss raises no events (R46). -/
def State.queueEstop (s : State) (p : Port) : State :=
  let q := s.queues.get p
  let t := if q.stop = .portLost then s else (s.raiseEstop p).raiseFlushed p q.others
  ((t.dropMove p).updQueue p (fun _ => Queue.emptied)).rebase p []

/-- The queues at an emergency stop; the latch is freed and its order emptied (R45, R64). -/
def State.queuesEstop (s : State) : State :=
  { Port.all.foldl State.queueEstop s with latch := { owner := none, waiting := [] } }

end Sys2Proof.Machine
end

