-- ==== Sys2Proof/Machine/Claims.lean ====
section
/-! DEFINITION. Machine/Claims.lean: the claim table, its commands and the orphan stop (01_resources_and_claims.md, R1 to
R17). -/

namespace Sys2Proof.Machine

/-! ### A resource changes hands -/

/-- A port comes to hold a resource: an axis's planned position becomes its T (R8, R22). -/
def State.gain (s : State) (p : Port) (r : Resource) : State :=
  match r with
  | .axis a => s.setPlanned p a (some (s.axes.get a).cmd)
  | .spindle => s
  | .coolant => s

/-- A resource leaves a port: an axis's planned position is discarded, its hand pending distance is zeroed and its hand-released
flag cleared (R22, R114, R117). -/
def State.leave (s : State) (p : Port) (r : Resource) : State :=
  match r with
  | .axis a => (s.setPlanned p a none).updHand a (fun h => { h with pending := 0, handReleased := false })
  | .spindle => s
  | .coolant => s

/-- A FREE resource is granted to the port that claims it (R4, R5). -/
def State.grant (s : State) (p : Port) (r : Resource) : State :=
  (s.setRow r { state := .held p, waiting := (s.row r).waiting }).gain p r

/-- A resource is passed on: to the first waiter with CLAIM GRANTED, or FREE (R8). -/
def State.passOn (s : State) (r : Resource) : State :=
  match (s.row r).waiting with
  | [] => s.setRow r { state := .free, waiting := [] }
  | q :: rest => ((s.setRow r { state := .held q, waiting := rest }).raise q (.claimGranted r)).gain q r

/-- A port is removed from the waiting list of a resource; the others keep their order (R7, R13). -/
def State.unwait (s : State) (p : Port) (r : Resource) : State :=
  s.setRow r { (s.row r) with waiting := (s.row r).waiting.filter (fun q => decide (q ≠ p)) }

/-! ### CLAIM (R3 to R5) -/

/-- The row is taken for a port: HELD by another port or ORPHANED (R3). -/
def State.isTaken (s : State) (p : Port) (r : Resource) : Bool :=
  match (s.row r).state with
  | .free => false
  | .held h => decide (h ≠ p)
  | .orphaned _ => true

/-- The row is FREE. -/
def State.isFree (s : State) (r : Resource) : Bool := decide ((s.row r).state = .free)

/-- A taken resource whose list holds two ports, neither of them the requester, cannot accept a third (R5). -/
def State.listFull (s : State) (p : Port) (r : Resource) : Bool :=
  s.isTaken p r && decide (2 ≤ (s.row r).waiting.length) && !(s.row r).waiting.contains p

/-- A port joins the waiting list of a taken resource, unless it is already listed (R5). -/
def State.join (s : State) (p : Port) (r : Resource) : State :=
  if (s.row r).waiting.contains p then s else s.setRow r { (s.row r) with waiting := (s.row r).waiting ++ [p] }

/-- Every free resource of a request becomes HELD (R4, R5). -/
def State.grantAll (s : State) (p : Port) (rs : List Resource) : State :=
  rs.foldl (fun t r => if t.isFree r then t.grant p r else t) s

/-- The port joins every taken resource of a request (R5). -/
def State.joinAll (s : State) (p : Port) (rs : List Resource) : State :=
  rs.foldl (fun t r => if t.isTaken p r then t.join p r else t) s

/-- The set byte of the resources of a request that satisfy a test. -/
def requestSet (rs : List Resource) (test : Resource → Bool) : Byte := encResourceSet (fun r => rs.contains r && test r)

/-- CLAIM with NOWAIT (R4). -/
def State.claimNow (s : State) (p : Port) (rs : List Resource) : Effect :=
  if rs.any (s.isTaken p) then
    { changed := none, settles := false, reply := [enc1 ResultCode.held.code, requestSet rs (s.hasClaim p), requestSet rs (s.isTaken p)] }
  else .taken (s.grantAll p rs) [requestSet rs ((s.grantAll p rs).hasClaim p), 0]

/-- CLAIM with WAIT (R5). -/
def State.claimWait (s : State) (p : Port) (rs : List Resource) : Effect :=
  if rs.any (s.listFull p) then .refuse .full
  else
    let t := (s.grantAll p rs).joinAll p rs
    { changed := some t
      settles := true
      reply :=
        [enc1 (if rs.any (s.isTaken p) then ResultCode.waiting else ResultCode.ok).code, requestSet rs (t.hasClaim p),
          requestSet rs (fun r => (t.row r).waiting.contains p)] }

/-- CLAIM (R3). -/
def State.effClaim (s : State) (p : Port) (bs : List Byte) : Effect :=
  match bs with
  | [set, mode] =>
    match decResourceSet set with
    | none => .refuse .badParam
    | some rs =>
      if rs.isEmpty then .refuse .badParam
      else if mode = 0 then s.claimNow p rs
      else if mode = 1 then s.claimWait p rs
      else .refuse .badParam
  | _ => .refuse .badParam

/-! ### RELEASE (R6, R7) -/

/-- A held resource that RELEASE is refused BUSY for (R6). -/
def State.releaseBusy (s : State) (p : Port) (r : Resource) : Bool :=
  (s.queues.get p).names r ||
  match r with
  | .axis a => decide ((s.hands.get a).pending ≠ 0) || (s.axes.get a).takeUp.isSome
  | .spindle => decide (s.spindle.state ≠ .stopped)
  | .coolant => decide (s.coolant.mode ≠ .off)

/-- The engage request for a released axis (R7, step 2). -/
def State.releaseClamp (s : State) (r : Resource) : State :=
  match r with
  | .axis a => s.engageRequest a
  | .spindle => s
  | .coolant => s

/-- One released resource leaves the port and is passed on (R7, step 3). -/
def State.releaseOne (s : State) (p : Port) (r : Resource) : State := (s.leave p r).passOn r

/-- RELEASE (R6, R7). -/
def State.effRelease (s : State) (p : Port) (bs : List Byte) : Effect :=
  match bs with
  | [set] =>
    match decResourceSet set with
    | none => .refuse .badParam
    | some rs =>
      if rs.isEmpty then .refuse .badParam
      else if rs.any (fun r => s.hasClaim p r && s.releaseBusy p r) then .refuse .busy
      else
        let held := rs.filter (s.hasClaim p)
        let waited := rs.filter (fun r => (s.row r).waiting.contains p)
        let t := waited.foldl (fun t r => t.unwait p r) s
        let t := held.foldl State.releaseClamp t
        let t := held.foldl (fun t r => t.releaseOne p r) t
        .taken t [encResourceSet held.contains, encResourceSet waited.contains]
  | _ => .refuse .badParam

/-! ### HAND OVER (R9, R10) -/

/-- The giver's part of HAND OVER: an axis's auto flag is cleared and its pending distance zeroed (R10). -/
def State.giveUp (s : State) (p : Port) (r : Resource) : State :=
  match r with
  | .axis a => (s.clearAuto a).leave p r
  | .spindle => s
  | .coolant => s

/-- A HAND OVER that is taken (R10). -/
def State.handOver (s : State) (p q : Port) (r : Resource) : State :=
  let t := (s.giveUp p r).setRow r { state := .held q, waiting := (s.row r).waiting.filter (fun x => decide (x ≠ q)) }
  (t.raise q (.claimGranted r)).gain q r

/-- HAND OVER (R9). -/
def State.effHandOver (s : State) (p : Port) (bs : List Byte) : Effect :=
  match bs with
  | [rc, pc] =>
    match Resource.ofCode rc.toNat, Port.ofCode pc.toNat with
    | some r, some q =>
      if q = p then .refuse .badParam
      else if !s.hasClaim p r then .refuse .notHeld
      else if (s.ports.get q).state ≠ .active then .refuse .state
      else if (s.queues.get p).names r then .refuse .busy
      else .taken (s.handOver p q r) []
    | _, _ => .refuse .badParam
  | _ => .refuse .badParam

/-! ### READ CLAIMS (R11) -/

/-- The report of one row (R11, R201): its state, the holder or orphaned-from port, the waiting list. -/
def ClaimRow.report (row : ClaimRow) : List Byte :=
  (match row.state with
    | .free => [0, 0]
    | .held h => [1, enc1 (Port.code h)]
    | .orphaned l => [2, enc1 (Port.code l)]) ++
  enc1 row.waiting.length :: row.waiting.map (fun p => enc1 (Port.code p))

/-- READ CLAIMS (R11). -/
def State.effReadClaims (s : State) : Effect := .read (Resource.all.flatMap (fun r => (s.row r).report))

/-! ### The orphan stop (R13 to R17) -/

/-- One row when a port is lost (R13). -/
def ClaimRow.lose (row : ClaimRow) (p : Port) : ClaimRow :=
  { state := if row.state = .held p then .orphaned p else row.state, waiting := row.waiting.filter (fun q => decide (q ≠ p)) }

/-- One resource when a port is lost: its row, and what the port kept of an axis it held (R13, R22, R114). -/
def State.loseResource (s : State) (p : Port) (r : Resource) : State :=
  (if s.hasClaim p r then s.leave p r else s).setRow r ((s.row r).lose p)

/-- The lost port's queue is flushed without events (R13, R46). -/
def State.loseQueue (s : State) (p : Port) : State :=
  if (s.queues.get p).moving then s.stopQueue p .portLost else s.clearQueue p

/-- The claim table's part of a port's loss (R13). The spindle's first step is still to come where SPINDLE becomes ORPHANED. -/
def State.orphan (s : State) (p : Port) : State :=
  let t := if s.hasClaim p .spindle then { s with claims := { s.claims with spindleStopSent := false } } else s
  (Resource.all.foldl (fun t r => t.loseResource p r) t).loseQueue p

/-- The lost port of an ORPHANED row. -/
def State.orphanedFrom (s : State) (r : Resource) : Option Port :=
  match (s.row r).state with
  | .orphaned p => some p
  | .held _ => none
  | .free => none

/-- An ORPHANED axis (R14): a clamp in FAULT, or ENGAGED on a standing axis, passes it on; a clamp that is not shut gets an engage
request once the axis is standing. -/
def State.orphanAxis (s : State) (a : Axis) : State :=
  if (s.orphanedFrom (.axis a)).isSome then
    if (s.clamps.get a).state.isFault then s.passOn (.axis a)
    else if s.standing a then
      if (s.clamps.get a).state = .engaged then s.passOn (.axis a) else s.engageRequest a
    else s
  else s

/-- The first step for an ORPHANED spindle: target 0 once the lost port's queue is EMPTY (R15). R15 and R148 name the speed 0 and no
direction; the record keeps the direction it has (log entry 25). -/
def State.orphanSpindleStop (s : State) : State :=
  match s.orphanedFrom .spindle with
  | none => s
  | some p =>
    if !s.claims.spindleStopSent && (s.queues.get p).entries.isEmpty then
      (({ s with claims := { s.claims with spindleStopSent := true } } : State)).takeTarget 0 s.spindle.dir
    else s

/-- The second step for an ORPHANED spindle: it is passed on in STOPPED or FAULT (R15). -/
def State.orphanSpindle (s : State) : State :=
  let t := s.orphanSpindleStop
  if (t.orphanedFrom .spindle).isSome && t.claims.spindleStopSent && (decide (t.spindle.state = .stopped) || t.spindle.state.isFault)
  then ({ t with claims := { t.claims with spindleStopSent := false } } : State).passOn .spindle
  else t

/-- ORPHANED coolant: mode OFF and passed on, once SPINDLE is not ORPHANED from the same port (R16). -/
def State.orphanCoolant (s : State) : State :=
  if (s.orphanedFrom .coolant).isSome && decide (s.orphanedFrom .spindle ≠ s.orphanedFrom .coolant) then
    s.coolantOff.passOn .coolant
  else s

/-- The claim table looks at its ORPHANED rows. -/
def State.claimsFollow (s : State) : State := ((Axis.all.foldl State.orphanAxis s).orphanSpindle).orphanCoolant

end Sys2Proof.Machine
end

