-- ==== Sys2Proof/Machine/Settle.lean ====
section
/-! DEFINITION. Machine/Settle.lean: what follows from a change within the same event (section 6.2 of 00_scope.md; log entry
14): the units, the queues and the claim table act until nothing changes; then the silence timers and the idle timers are
brought to their conditions (R117, R187). -/

namespace Sys2Proof.Machine

/-- The hydraulic unit, the clamps and the spindle unit follow their conditions once. -/
def State.unitsFollow (s : State) : State := s.hydFollow.clampsFollow.spindleFollow.hydFollow

/-- The blocks act until a round changes nothing; `old` is the state against which the heads were last judged. -/
def State.settleLoop : Nat → State → State → State
  | 0, _, s => s
  | n + 1, old, s =>
    let u := s.unitsFollow
    let t := (State.queuesFollow old u).claimsFollow
    if t = s then s else State.settleLoop n u t

/-- The silence limit of a port (R187). -/
def State.silenceLimit (s : State) (p : Port) : Timer := timerOf (s.config.silence.get p)

/-- A complete command restarts the port's silence timer if the port is engaged (R187). -/
def State.restartSilence (s : State) (p : Port) : State :=
  if s.engaged p then s.updPort p (fun l => { l with silence := s.silenceLimit p }) else s

/-- The silence timer of one port runs only while the port is engaged, and starts when it becomes engaged (R187). -/
def State.silenceFollow (s : State) (p : Port) : State :=
  s.updPort p (fun l =>
    { l with silence := if s.engaged p then (if l.silence.isSome then l.silence else s.silenceLimit p) else none })

/-- The holder's queue names an axis (R117). -/
def State.holderNames (s : State) (a : Axis) : Bool :=
  match s.holder (.axis a) with
  | none => false
  | some p => (s.queues.get p).names (.axis a)

/-- The conditions of the idle timer of an axis (R117). -/
def State.idleRuns (s : State) (a : Axis) : Bool :=
  (s.hands.get a).handReleased && decide ((s.hands.get a).pending = 0) && s.standing a && !s.holderNames a

/-- The idle timer of one axis runs while its conditions hold, from the full time (R117). -/
def State.idleFollow (s : State) (a : Axis) : State :=
  s.updHand a (fun h =>
    { h with
      idle := if s.idleRuns a then (if h.idle.isSome then h.idle else timerOf (s.config.axes.get a).handReclamp) else none })

/-- The silence timers and the idle timers. -/
def State.timersFollow (s : State) : State := Axis.all.foldl State.idleFollow (Port.all.foldl State.silenceFollow s)

/-- Everything that follows from a change from one state to another, within the same event. -/
def State.settle (old s : State) : State := (State.settleLoop 64 old s).timersFollow

end Sys2Proof.Machine
end

