-- ==== Sys2Proof/Machine/Axes.lean ====
section
/-! DEFINITION. Machine/Axes.lean: the axis units: encoder, index, home and drive inputs, follow-up, compensation, PRESET and
the reports (04_axis_positions_compensation_and_step_output.md, R67 to R93). -/

namespace Sys2Proof.Machine

/-! ### The bound of M and T (R67) -/

/-- The bound of M and T: 2,000,000,000 units (R67). -/
def positionBound : Int := 2000000000

/-- A change that would carry a position beyond the bound, or further beyond it (R67). -/
def beyondBound (before after : Int) : Bool :=
  (decide (positionBound < after) && decide (before < after)) || (decide (after < -positionBound) && decide (after < before))

/-- The fault cause ENCODER clears the referenced flag too (R67, R69). -/
def State.encoderFault (s : State) (a : Axis) : State :=
  (s.updAxis a (fun u => { u with referenced := false })).axisFault a .encoder

/-! ### Inputs -/

/-- The place of a channel pair in the sequence of R69. -/
def quadrature (chA chB : Bool) : Nat := if chA then (if chB then 2 else 1) else (if chB then 3 else 0)

/-- A count event (R69): not taken where it would carry M beyond the bound (R67). -/
def State.countEvent (s : State) (a : Axis) (d : Int) : State :=
  if beyondBound (s.axes.get a).meas ((s.axes.get a).meas + d) then s.encoderFault a
  else s.updAxis a (fun u => { u with meas := u.meas + d })

/-- An illegal transition (R69): M as it was, the time kept, the fault. -/
def State.illegalTransition (s : State) (a : Axis) : State :=
  (s.updAxis a (fun u => { u with lastIllegal := some s.now })).encoderFault a

/-- The new levels of an encoder's channels (R69). -/
def State.encoderChange (s : State) (a : Axis) (chA chB : Bool) : State :=
  let t : State :=
    { s with inputs := { s.inputs with encoderA := s.inputs.encoderA.set a chA, encoderB := s.inputs.encoderB.set a chB } }
  match (quadrature chA chB + 4 - quadrature (s.inputs.encoderA.get a) (s.inputs.encoderB.get a)) % 4 with
  | 0 => s
  | 1 => t.countEvent a 1
  | 3 => t.countEvent a (-1)
  | _ => t.illegalTransition a

/-- A move is the reference search of an axis. -/
def Move.searches (m : Move) (a : Axis) : Bool :=
  decide (m.kind = .reference) && m.axes.any (fun j => decide (j.axis = a))

/-- The path generator's part of a capture: the start shifted, the seen mark, the stop request (R63). -/
def Move.capture (m : Move) (shift : Int) : Move :=
  { m with axes := m.axes.map (fun j => { j with start := j.start + shift }), seen := true, stop := true }

/-- The capture reaches the move of one port. -/
def State.captureMove (shift : Int) (a : Axis) (s : State) (p : Port) : State :=
  match s.moves.get p with
  | none => s
  | some m => if m.searches a then s.setMove p (some (m.capture shift)) else s

/-- A rising edge of the index input: in phase INDEX it is the capture (R91, R63). -/
def State.indexCapture (s : State) (a : Axis) : State :=
  if (s.axes.get a).search = .index then
    let shift := (s.config.axes.get a).refPos - (s.axes.get a).meas
    Port.all.foldl (State.captureMove shift a) ((s.shiftAxis a shift).updAxis a (fun u => { u with search := .captured }))
  else s

/-- The home switch (R90). -/
def State.homeChange (s : State) (a : Axis) (active : Bool) : State :=
  let t : State := { s with inputs := { s.inputs with home := s.inputs.home.set a active } }
  if active && decide ((s.axes.get a).search = .search) then t.updAxis a (fun u => { u with search := .index }) else t

/-- The drive-ready input of an axis (R70). -/
def State.driveChange (s : State) (a : Axis) (ready : Bool) : State :=
  let t : State := { s with inputs := { s.inputs with driveReady := s.inputs.driveReady.set a ready } }
  if s.inputs.driveReady.get a && !ready && decide (s.machine ≠ .start) then t.axisFault a .drive else t

/-- The probe input (R65). -/
def State.probeChange (s : State) (active : Bool) : State :=
  let t : State := { s with inputs := { s.inputs with probe := active } }
  if active && !s.inputs.probe then t.probeTrigger else t

/-! ### Follow-up and MACHINE RESET -/

/-- Follow-up ends on an axis (R77): O and E at M, k settled, T set to O - k. -/
def State.endFollowUp (s : State) (a : Axis) : State :=
  let u := s.axes.get a
  let k := if u.compEnabled then s.comp a u.cmd else 0
  (s.updAxis a (fun u => { u with out := u.meas, backlog := 0 })).setCmd a (u.meas - k)

/-- Follow-up ends on every axis that is not faulted (R77, R174). -/
def State.endFollowUps (s : State) : State :=
  Axis.all.foldl (fun t a => if (t.axes.get a).fault.isSome then t else t.endFollowUp a) s

/-- An illegal transition has been taken within the last 10 ms (R79; log entry 24). -/
def State.recentIllegal (s : State) (a : Axis) : Bool :=
  match (s.axes.get a).lastIllegal with
  | none => false
  | some t => decide (s.now ≤ t + 10000)

/-- An axis at a MACHINE RESET (R79). -/
def State.axisReset (s : State) (a : Axis) : State :=
  if (s.axes.get a).fault.isSome && s.inputs.driveReady.get a && !s.recentIllegal a && !(s.clamps.get a).state.isFault then
    (s.updAxis a (fun u => { u with fault := none })).endFollowUp a
  else s

/-- One axis at an emergency stop (R78): the take-up is cut and the search phase returns to NONE. -/
def State.axisEstop (s : State) (a : Axis) : State :=
  s.updAxis a (fun u => { u with takeUp := none, search := .none })

/-! ### Compensation (R80 to R87) -/

/-- COMP WINDOW (R82). -/
def State.effCompWindow (s : State) (p : Port) (bs : List Byte) : Effect :=
  match bs with
  | [ax, first, last, meth] =>
    match Axis.ofCode ax.toNat, decMethod meth with
    | some a, some m =>
      if last.toNat < first.toNat ∨ 63 < last.toNat then .refuse .badParam
      else if !s.hasClaim p (.axis a) then .refuse .notHeld
      else if (s.axes.get a).compEnabled then .refuse .state
      else
        .taken (s.updAxis a (fun u =>
          { u with window := { first := first.toNat, last := last.toNat, pointer := some first.toNat, method := m } })) []
    | _, _ => .refuse .badParam
  | _ => .refuse .badParam

/-- The pointer after a value is written at it (R83). -/
def CompWindow.next (w : CompWindow) (i : Nat) : Option Nat :=
  if i < w.last then some (i + 1)
  else
    match w.method with
    | .wrap => some w.first
    | .stop => none

/-- A value clamped to -1,000 to +1,000 (R83). -/
def clampComp (v : Int) : Int := max (-1000) (min v 1000)

/-- The two-byte values of a list of bytes; a last single byte is not a value (R83, R183). -/
def decValues : List Byte → List Int
  | hi :: lo :: rest => s16 hi lo :: decValues rest
  | _ => []

/-- The values written at the pointer in the order received: the table, the window and the count written; the rest is
discarded (R83). -/
def writeValues (table : List Int) (w : CompWindow) : List Int → List Int × CompWindow × Nat
  | [] => (table, w, 0)
  | v :: vs =>
    match w.pointer with
    | none => (table, w, 0)
    | some i =>
      let r := writeValues (table.set i (clampComp v)) { w with pointer := w.next i } vs
      (r.1, r.2.1, r.2.2 + 1)

/-- The values of a COMP DATA are taken (R83). -/
def State.storeValues (s : State) (a : Axis) (vs : List Int) : State :=
  let r := writeValues (s.config.comp.get a) (s.axes.get a).window vs
  ({ s with config := { s.config with comp := s.config.comp.set a r.1 } } : State).updAxis a (fun u => { u with window := r.2.1 })

/-- The code of an index or the exhausted mark (R200). -/
def encPointer : Option Nat → Byte
  | none => 255
  | some i => enc1 i

/-- COMP DATA with its axis decoded (R83). -/
def State.takeValues (s : State) (p : Port) (a : Axis) (vs : List Int) : Effect :=
  if !s.hasClaim p (.axis a) then .refuse .notHeld
  else if (s.axes.get a).compEnabled then .refuse .state
  else
    let r := writeValues (s.config.comp.get a) (s.axes.get a).window vs
    .taken (s.storeValues a vs) [enc1 r.2.2, enc1 (vs.length - r.2.2), encPointer r.2.1.pointer]

/-- COMP DATA (R83). -/
def State.effCompData (s : State) (p : Port) (bs : List Byte) : Effect :=
  match bs with
  | ax :: rest =>
    match Axis.ofCode ax.toNat with
    | none => .refuse .badParam
    | some a => if rest.length % 2 = 0 then s.takeValues p a (decValues rest) else .refuse .badParam
  | [] => .refuse .badParam

/-- READ COMP (R84). -/
def State.effReadComp (s : State) (bs : List Byte) : Effect :=
  match bs with
  | [ax, first, count] =>
    match Axis.ofCode ax.toNat with
    | none => .refuse .badParam
    | some a =>
      if 63 < first.toNat ∨ count.toNat < 1 ∨ 32 < count.toNat ∨ 64 < first.toNat + count.toNat then .refuse .badParam
      else
        let u := s.axes.get a
        let par := s.config.axes.get a
        .read ([encFlag u.compEnabled, encFlag u.takeUp.isSome] ++ enc2 (u.takeUp.getD (-1)) ++ enc2 u.k ++
          enc4 par.compOrigin ++ enc4 par.compSpacing ++
          [enc1 u.window.first, enc1 u.window.last, encPointer u.window.pointer, enc1 u.window.method.code] ++
          enc1 count.toNat :: (((s.config.comp.get a).drop first.toNat).take count.toNat).flatMap enc2)
  | _ => .refuse .badParam

/-- A take-up toward a target k, or none where k is there already (R85). -/
def State.startTakeUp (s : State) (a : Axis) (enable : Bool) (target : Int) : State :=
  s.updAxis a (fun u => { u with compEnabled := enable, takeUp := if target = u.k then none else some target })

/-- COMP ENABLE and COMP DISABLE with the axis decoded: checks 2 to 8 and the effect (R85). -/
def State.switchComp (s : State) (p : Port) (a : Axis) (enable : Bool) : Effect :=
  let u := s.axes.get a
  let target := if enable then s.comp a u.cmd else 0
  if !s.hasClaim p (.axis a) then .refuse .notHeld
  else if s.machine ≠ .run then .refuse .notReady
  else if u.compEnabled = enable then .read [255, 255]
  else if enable && !u.referenced then .refuse .notReferenced
  else if u.fault.isSome then .refuse .state
  else if !s.standing a then .refuse .busy
  else if (s.clamps.get a).state ≠ .released then .refuse .clamped
  else .taken (s.startTakeUp a enable target) (enc2 target)

/-- COMP ENABLE (R85). -/
def State.effCompEnable (s : State) (p : Port) (bs : List Byte) : Effect :=
  match bs with
  | [ax] =>
    match Axis.ofCode ax.toNat with
    | none => .refuse .badParam
    | some a => s.switchComp p a true
  | _ => .refuse .badParam

/-- COMP DISABLE (R85). -/
def State.effCompDisable (s : State) (p : Port) (bs : List Byte) : Effect :=
  match bs with
  | [ax] =>
    match Axis.ofCode ax.toNat with
    | none => .refuse .badParam
    | some a => s.switchComp p a false
  | _ => .refuse .badParam

/-! ### PRESET (R88, R89) -/

/-- PRESET with its fields decoded: checks 2 to 8 (R88) and its effect (R89). -/
def State.takePreset (s : State) (p : Port) (a : Axis) (v : Int) : Effect :=
  let u := s.axes.get a
  if !s.hasClaim p (.axis a) then .refuse .notHeld
  else if s.machine ≠ .run ∧ s.machine ≠ .resetWait then .refuse .notReady
  else if u.fault.isSome then .refuse .state
  else if u.compEnabled then .refuse .state
  else if !s.standing a then .refuse .busy
  else if (s.queues.get p).names (.axis a) then .refuse .busy
  else
    match s.presetTest a v with
    | some c => .refuse c
    | none => .taken ((s.shiftAxis a (v - u.cmd)).updAxis a (fun u => { u with referenced := true })) []

/-- PRESET (R88). -/
def State.effPreset (s : State) (p : Port) (bs : List Byte) : Effect :=
  match bs with
  | [ax, v3, v2, v1, v0] =>
    match Axis.ofCode ax.toNat with
    | none => .refuse .badParam
    | some a =>
      if s32 v3 v2 v1 v0 < -1000000000 ∨ 1000000000 < s32 v3 v2 v1 v0 then .refuse .badParam
      else s.takePreset p a (s32 v3 v2 v1 v0)
  | _ => .refuse .badParam

/-! ### READ POSITIONS (R93) -/

/-- The 25 bytes of one axis (section 13.4). -/
def State.positionReport (s : State) (a : Axis) : List Byte :=
  let u := s.axes.get a
  enc4 u.cmd ++ enc4 u.out ++ enc4 u.meas ++ enc2 u.k ++ enc4 u.backlog ++ enc4 (u.emitted - u.meas).natAbs ++
    [enc1 (encBits [u.referenced, u.compEnabled, u.takeUp.isSome, s.standing a, s.followUp a]),
      enc1 (match u.fault with
        | none => 0
        | some c => c.code),
      enc1 u.search.code]

/-- READ POSITIONS (R93). -/
def State.effReadPositions (s : State) : Effect := .read (Axis.all.flatMap s.positionReport)

end Sys2Proof.Machine
end

