-- ==== Sys2Proof/Machine/Hand.lean ====
section
/-! DEFINITION. Machine/Hand.lean: the hand follower (06_handwheel_jogging.md, R109 to R119). -/

namespace Sys2Proof.Machine

/-- The bound of a pending distance: HAND_RATE × 250 (R109). -/
def State.handBound (s : State) (a : Axis) : Int := (s.config.axes.get a).handRate * 250

/-- A value clamped to plus or minus a bound. -/
def clampSym (bound v : Int) : Int := max (-bound) (min v bound)

/-- The pending distance after counts are taken (R111). -/
def State.pendingAfter (s : State) (a : Axis) (offered : Int) : Int :=
  clampSym (s.handBound a) ((s.hands.get a).pending + offered)

/-- The follower looks at the clamp once the pending distance is not 0 (R111). -/
def State.handRelease (s : State) (a : Axis) : State :=
  match (s.clamps.get a).state with
  | .engaged => (s.releaseAuto a).updHand a (fun h => { h with handReleased := true })
  | .engaging => (s.releaseAuto a).updHand a (fun h => { h with handReleased := true })
  | .releaseWait => s
  | .releasing => s
  | .released => s
  | .fault _ => s

/-- A HANDWHEEL that is taken (R111). -/
def State.handTaken (s : State) (a : Axis) (offered : Int) : State :=
  let t := s.updHand a (fun h => { h with pending := s.pendingAfter a offered })
  if s.pendingAfter a offered = 0 then t else t.handRelease a

/-- HANDWHEEL with its fields decoded: checks 2 to 10 (R110) and its effect (R111). -/
def State.takeHandwheel (s : State) (p : Port) (a : Axis) (offered : Int) : Effect :=
  let clamp := (s.clamps.get a).state
  if !s.hasClaim p (.axis a) then .refuse .notHeld
  else if s.machine ≠ .run then .refuse .notReady
  else if !s.inputs.enabling then .refuse .state
  else if !s.holds.isEmpty then .refuse .state
  else if (s.axes.get a).fault.isSome then .refuse .state
  else if (s.queues.get p).names (.axis a) then .refuse .busy
  else if (s.axes.get a).takeUp.isSome then .refuse .busy
  else if clamp.isFault then .refuse .clamped
  else if (clamp = .engaged ∨ clamp = .engaging) ∧ s.hyd.state = .lost then .refuse .hydraulic
  else
    .taken (s.handTaken a offered)
      (enc4 (s.pendingAfter a offered - (s.hands.get a).pending) ++ enc4 (s.pendingAfter a offered))

/-- HANDWHEEL (R110). -/
def State.effHandwheel (s : State) (p : Port) (bs : List Byte) : Effect :=
  match bs with
  | [ax, c1, c0, mult] =>
    match Axis.ofCode ax.toNat, decMultiplier mult with
    | some a, some m => s.takeHandwheel p a (s16 c1 c0 * m)
    | _, _ => .refuse .badParam
  | _ => .refuse .badParam

/-- Every pending distance is zeroed (R114). -/
def State.zeroPending (s : State) : State := Axis.all.foldl (fun t a => t.updHand a (fun h => { h with pending := 0 })) s

/-- The enabling switch (R110, R114). -/
def State.enablingChange (s : State) (active : Bool) : State :=
  let t : State := { s with inputs := { s.inputs with enabling := active } }
  if active then t else t.zeroPending

/-- The idle timer expires (R118). -/
def State.reclampExpiry (s : State) (a : Axis) : State :=
  if (s.hands.get a).idle.isSome then (s.updHand a (fun h => { h with idle := none })).engageIfAuto a else s

/-- One motion period of the follower on one axis (R112, R113): the axis moves by at most HAND_RATE, to the allowed position, and
a refused target drops the rest. -/
def State.handStep (s : State) (a : Axis) : State :=
  let pending := (s.hands.get a).pending
  if pending = 0 ∨ (s.clamps.get a).state ≠ .released then s
  else
    let step := clampSym (s.config.axes.get a).handRate pending
    let target := (s.axes.get a).cmd + step
    let allowed := if (s.axes.get a).referenced then s.allowedPosition a target else target
    if beyondBound (s.axes.get a).cmd allowed then s.encoderFault a
    else if allowed = target then (s.setCmd a target).updHand a (fun h => { h with pending := pending - step })
    else ((s.setCmd a allowed).updHand a (fun h => { h with pending := 0 })).raiseHolder (.axis a) (.handLimited a)

end Sys2Proof.Machine
end

