-- ==== Sys2Proof/Machine/Motion.lean ====
section
/-! DEFINITION. Machine/Motion.lean: one motion period: the timers, the path generator, the hand follower, the axis units and the
spindle ramp (R53 to R61, R71 to R73, R76, R86, R112, R145). -/

namespace Sys2Proof.Machine

/-! ### Timers -/

/-- One millisecond off a running timer. -/
def Timer.tick (t : Timer) : Timer := Option.map (· - 1) t

/-- The timer of a queue's head: a DWELL stands still while the hold-source set is not empty (R35, R39). -/
def Queue.tick (q : Queue) (held : Bool) : Queue :=
  match q.entries with
  | [] => q
  | e :: _ =>
    match e.kind with
    | .dwell _ => if held then q else { q with timer := Timer.tick q.timer }
    | _ => { q with timer := Timer.tick q.timer }

/-- The timers of the hydraulic unit. -/
def Hyd.tick (h : Hyd) : Hyd :=
  { h with startTimer := Timer.tick h.startTimer, dipTimer := Timer.tick h.dipTimer, runonTimer := Timer.tick h.runonTimer }

/-- The timers of the spindle unit. -/
def Spindle.tick (sp : Spindle) : Spindle :=
  { sp with
    atSpeedTimer := Timer.tick sp.atSpeedTimer, stopTimer := Timer.tick sp.stopTimer, stageTimer := Timer.tick sp.stageTimer,
    halfTimer := Timer.tick sp.halfTimer, standstillTimer := Timer.tick sp.standstillTimer }

/-- The timers of the coolant unit. -/
def Coolant.tick (c : Coolant) : Coolant :=
  { c with primeTimer := Timer.tick c.primeTimer, lossTimer := Timer.tick c.lossTimer }

/-- One value per axis under a function. -/
def mapAxes {α β : Type} (f : α → β) (v : PerAxis α) : PerAxis β := .ofFn (fun a => f (v.get a))

/-- One value per port under a function. -/
def mapPorts {α β : Type} (f : α → β) (v : PerPort α) : PerPort β := ⟨f v.link1, f v.link2, f v.link3⟩

/-- The debounce timers. -/
def Conditioner.tick (c : Conditioner) : Conditioner where
  clampEngaged := mapAxes Timer.tick c.clampEngaged
  clampReleased := mapAxes Timer.tick c.clampReleased
  gearA1 := Timer.tick c.gearA1
  gearA2 := Timer.tick c.gearA2
  gearB1 := Timer.tick c.gearB1
  gearB2 := Timer.tick c.gearB2
  hydPressure := Timer.tick c.hydPressure
  coolantPressure := Timer.tick c.coolantPressure
  lowLevel := Timer.tick c.lowLevel
  home := mapAxes Timer.tick c.home
  enabling := Timer.tick c.enabling
  panelHold := Timer.tick c.panelHold
  driveReady := mapAxes Timer.tick c.driveReady
  spindleReady := Timer.tick c.spindleReady

/-- A millisecond passes: the clock and every running timer (log entry 3). -/
def State.tickTimers (s : State) : State :=
  { s with
    now := s.now + 1000
    conditioner := s.conditioner.tick
    queues := mapPorts (Queue.tick · (!s.holds.isEmpty)) s.queues
    hands := mapAxes (fun h => { h with idle := Timer.tick h.idle }) s.hands
    hyd := s.hyd.tick
    clamps := mapAxes (fun c => { c with timer := Timer.tick c.timer }) s.clamps
    spindle := s.spindle.tick
    coolant := s.coolant.tick
    ports := mapPorts (fun l => { l with silence := Timer.tick l.silence, breakTimer := Timer.tick l.breakTimer }) s.ports }

/-! ### The path generator -/

/-- The ceiling of a move now (R53). -/
def State.ceiling (s : State) (m : Move) : Nat := m.ceiling s.overrides (!s.holds.isEmpty)

/-- A move writes the commanded position of one of its axes (R58, R67, R71 step 1); the planned position stays (R23). -/
def State.writeMove (s : State) (a : Axis) (t : Int) : State :=
  if beyondBound (s.axes.get a).cmd t then s.encoderFault a else s.updAxis a (fun u => { u with cmd := t })

/-- One move advances and writes its axes (R55, R58). Where one axis's T is refused at the bound (R67), the others still take theirs and do
steps 2 to 4 of the period (log entry 16). -/
def State.pathStep (s : State) (p : Port) : State :=
  match s.moves.get p with
  | none => s
  | some m =>
    let n := (m.advance (s.ceiling m)).1
    n.axes.foldl (fun t j => t.writeMove j.axis (n.position j)) (s.setMove p (some n))

/-- How the period ends the move of a port, seen from the state at its start (R55). -/
def State.pathEnd (was : State) (p : Port) : MoveEnd :=
  match was.moves.get p with
  | none => .goes
  | some m => (m.advance (was.ceiling m)).2

/-! ### The axis units -/

/-- The following-error check (R73), made in RUN and RESET_WAIT. -/
def State.followingExceeded (s : State) (a : Axis) : Bool :=
  (decide (s.machine = .run) || decide (s.machine = .resetWait)) &&
    decide ((s.config.axes.get a).feLimit < ((s.axes.get a).emitted - (s.axes.get a).meas).natAbs)

/-- The output position that step 3 forms (R71, R86). -/
def State.nextOut (s : State) (a : Axis) : Int :=
  let u := s.axes.get a
  match u.takeUp with
  | some k => u.out + clampSym (s.config.axes.get a).handRate (u.cmd + k - u.out)
  | none => if u.compEnabled then u.cmd + s.comp a u.cmd else u.cmd

/-- Step 3: O is formed and the backlog grows by its change (R71, R72). -/
def AxisUnit.formOut (u : AxisUnit) (o : Int) : AxisUnit := { u with out := o, backlog := o - u.emitted }

/-- Step 4: at most 1,000 pulses, toward O (R72). -/
def AxisUnit.emit (u : AxisUnit) (pulsing : Bool) : AxisUnit :=
  if pulsing then
    let n := clampSym 1000 u.backlog
    { u with
      backlog := u.backlog - n, stepPulses := n.natAbs,
      stepForward := if n = 0 then u.stepForward else decide (0 < n) }
  else { u with stepPulses := 0 }

/-- A take-up ends in the period in which O reaches T + target (R86). -/
def AxisUnit.endTakeUp (u : AxisUnit) : AxisUnit :=
  match u.takeUp with
  | none => u
  | some k => if u.out = u.cmd + k then { u with takeUp := none } else u

/-- Pulses go out only in RUN with the clamp RELEASED (R72). -/
def State.pulsing (s : State) (a : Axis) : Bool :=
  decide (s.machine = .run) && decide ((s.clamps.get a).state = .released)

/-- One period of follow-up (R76). -/
def State.followUpStep (s : State) (a : Axis) : State :=
  let u := s.axes.get a
  (s.updAxis a (fun u => { u with out := u.meas, backlog := 0, stepPulses := 0 })).setCmd a (u.meas - u.k)

/-- Steps 2 to 4 of one axis unit (R71). -/
def State.axisSteps (s : State) (a : Axis) : State :=
  if s.followingExceeded a then (s.updAxis a (fun u => { u with stepPulses := 0 })).axisFault a .following
  else s.updAxis a (fun u => ((u.formOut (s.nextOut a)).emit (s.pulsing a)).endTakeUp)

/-- One axis unit's period: follow-up where it was in follow-up as the period began (R71, R75, R76); an axis that faulted at step 1
does no more (log entry 16). -/
def State.axisPeriod (was s : State) (a : Axis) : State :=
  if was.followUp a then s.followUpStep a
  else if (s.axes.get a).fault.isSome then s.updAxis a (fun u => { u with stepPulses := 0 })
  else s.axisSteps a

/-! ### The whole period -/

/-- The ends of the period's moves are reported after the axis units have done their work (R71); a fault on one of the move's axes
turns the end into an abrupt stop (R73). -/
def State.reportEnd (was s : State) (p : Port) : State :=
  if s.cutByFault p then s
  else
    match was.pathEnd p with
    | .goes => s
    | .landed => s.endMove p .landed
    | .short => s.endMove p .short

/-- The work of one motion period before anything follows from it. The moves that end in it are dealt with Link 1 first, and one that a
fault cuts ends only in what follows (log entry 15). -/
def State.periodWork (s : State) : State :=
  let t := Port.all.foldl State.pathStep s.tickTimers
  let t := Axis.all.foldl State.handStep t
  let t := Axis.all.foldl (State.axisPeriod s) t
  Port.all.foldl (State.reportEnd s) t.spindlePeriod

/-- One motion period (section 6.2 of 00_scope.md). -/
def State.motionPeriod (s : State) : State := State.settle s s.periodWork

end Sys2Proof.Machine
end

