-- ==== Sys2Proof/Machine/Modes.lean ====
section
/-! DEFINITION. Machine/Modes.lean: the machine state, the hold-source set and the overrides
(10_machine_state_emergency_stop_and_feed_hold.md, R172 to R179). -/

namespace Sys2Proof.Machine

/-! ### Machine state -/

/-- The machine state changes: MACHINE STATE to every ACTIVE port (R172). -/
def State.enterMachine (s : State) (m : MachineState) : State := ({ s with machine := m } : State).raiseMachineState

/-- The level of the filtered chain. -/
def State.setChain (s : State) (closed : Bool) : State := { s with inputs := { s.inputs with chainClosed := closed } }

/-- Every block's part of entering ESTOP (R173); `was` is the state as the chain opened. -/
def State.enterEstop (was s : State) : State :=
  let t := State.clampsEstop was (s.enterMachine .estop)
  let t := (Axis.all.foldl State.axisEstop t).zeroPending
  t.spindleEstop.coolantEstop.queuesEstop

/-- The chain opens (R173): in RESET_WAIT and RUN the machine enters ESTOP. -/
def State.chainOpens (s : State) : State :=
  if s.machine = .run ∨ s.machine = .resetWait then State.settle s (State.enterEstop s (s.setChain false)) else s.setChain false

/-- The chain closes (R174): in ESTOP the machine enters RESET_WAIT and follow-up ends on the axes that are not faulted. -/
def State.chainCloses (s : State) : State :=
  if s.machine = .estop then State.settle s ((s.setChain true).enterMachine .resetWait).endFollowUps else s.setChain true

/-! ### MACHINE RESET (R175) -/

/-- Step 1 of MACHINE RESET: each block clears its latched faults, the clamps before the axis units (R175). -/
def State.clearFaults (s : State) : State :=
  let t := Axis.all.foldl State.clampReset s.hydReset
  Axis.all.foldl State.axisReset t.spindleReset.coolantReset

/-- The machine has been in RUN since a RELOAD in progress was taken (R199). -/
def ConfigStore.ran (c : ConfigStore) : ConfigStore :=
  match c.op with
  | .reloading p _ => { c with op := .reloading p true }
  | .storing _ _ => c
  | .idle => c

/-- Step 2 of MACHINE RESET: RESET_WAIT becomes RUN (R175). -/
def State.enterRun (s : State) : State :=
  if s.machine = .resetWait then ({ s with store := s.store.ran } : State).enterMachine .run else s

/-- The units that remain faulted, as MACHINE RESET reports them (R175, R201). -/
def State.faultReport (s : State) : List Byte :=
  [encAxisSet (fun a => (s.axes.get a).fault.isSome), encAxisSet (fun a => (s.clamps.get a).state.isFault),
    enc1 (encBits [decide (s.hyd.state = .lost), s.spindle.state.isFault, s.coolant.flood.isFault, s.coolant.through.isFault])]

/-- MACHINE RESET (R175). -/
def State.effMachineReset (s : State) : Effect :=
  match s.machine with
  | .start => .refuse .state
  | .estop => .refuse .state
  | .resetWait => .taken s.clearFaults.enterRun (enc1 s.clearFaults.enterRun.machine.code :: s.clearFaults.enterRun.faultReport)
  | .run => .taken s.clearFaults.enterRun (enc1 s.clearFaults.enterRun.machine.code :: s.clearFaults.enterRun.faultReport)

/-! ### The hold-source set (R176, R177) -/

/-- A port's own source is in the set. -/
def State.holdsSource (s : State) (p : Port) : Bool := s.holds.links.get p

/-- The set with a port's source put in or taken out. -/
def State.setSource (s : State) (p : Port) (f : Bool) : State :=
  { s with holds := { s.holds with links := s.holds.links.set p f } }

/-- HOLD (R177): an added source zeroes every pending distance (R114). -/
def State.effHold (s : State) (p : Port) : Effect :=
  if s.holdsSource p then .read [encHolds s.holds]
  else .taken (s.setSource p true).zeroPending [encHolds (s.setSource p true).holds]

/-- RELEASE HOLD (R177). -/
def State.effReleaseHold (s : State) (p : Port) : Effect :=
  if s.holdsSource p then .taken (s.setSource p false) [encHolds (s.setSource p false).holds] else .read [encHolds s.holds]

/-- The panel hold input (R176); in START only its level is kept. -/
def State.panelChange (s : State) (active : Bool) : State :=
  let t : State := { s with inputs := { s.inputs with panelHold := active } }
  if s.machine = .start then t
  else
    let u : State := { t with holds := { t.holds with panel := active } }
    if active then u.zeroPending else u

/-! ### Overrides (R178, R179) -/

/-- The overrides with the groups received taken, each clamped to its range (R179). -/
def Overrides.take (o : Overrides) : List Byte → Overrides
  | [] => o
  | [f] => { o with feed := min f.toNat 150 }
  | [f, r] => { o with feed := min f.toNat 150, rapid := min r.toNat 100 }
  | f :: r :: v :: _ => { feed := min f.toNat 150, rapid := min r.toNat 100, spindle := clampNat 50 120 v.toNat }

/-- The groups of SET OVERRIDE are taken; the spindle unit finds S' again (R178). -/
def State.takeOverrides (s : State) (bs : List Byte) : State :=
  ({ s with overrides := s.overrides.take bs } : State).spindleOverride

/-- SET OVERRIDE (R179). -/
def State.effSetOverride (s : State) (bs : List Byte) : Effect :=
  let o := s.overrides.take bs
  .taken (s.takeOverrides bs) [enc1 o.feed, enc1 o.rapid, enc1 o.spindle]

end Sys2Proof.Machine
end

