-- ==== Sys2Proof/Machine/ConfigStore.lean ====
section
/-! DEFINITION. Machine/ConfigStore.lean: the configuration store: parameters, the configuration image, the start-up load,
CONFIG WRITE, READ, STORE and RELOAD, and the reset input (12_stored_configuration_and_start_up.md, R192 to R199; section
13.5). -/

namespace Sys2Proof.Machine

/-! ### Parameters (R194) -/

/-- The parameters of R194; an axis, range, spindle or coolant parameter carries its parameter number. -/
inductive Param where
  | axis (a : Axis) (n : Nat)
  | reachMin | reachMax
  | debounce (g : Nat)
  | pinnedCount
  | hydStartLimit | hydDip | hydRunon
  | silence (p : Port)
  | range (r : GearRange) (n : Nat)
  | spindle (n : Nat)
  | coolant (n : Nat)
  deriving DecidableEq, Repr

/-- The range row of an index: 0 to 3 for I to IV. -/
def rowOf : Nat → Option GearRange
  | 0 => some .i
  | 1 => some .ii
  | 2 => some .iii
  | 3 => some .iv
  | _ => none

/-- The parameter a number and an index name (R194); a parameter that has no index has index 0 (section 13.2). -/
def Param.ofId (n i : Nat) : Option Param :=
  if 1 ≤ n ∧ n ≤ 15 then (Axis.ofCode i).map (fun a => .axis a n)
  else if 64 ≤ n ∧ n ≤ 67 then (rowOf i).map (fun r => .range r n)
  else if n = 48 then (Port.ofCode i).map .silence
  else if n = 34 then (if i < 7 then some (.debounce i) else none)
  else if i ≠ 0 then none
  else if n = 32 then some .reachMin
  else if n = 33 then some .reachMax
  else if n = 35 then some .pinnedCount
  else if n = 40 then some .hydStartLimit
  else if n = 41 then some .hydDip
  else if n = 42 then some .hydRunon
  else if 68 ≤ n ∧ n ≤ 76 then some (.spindle n)
  else if 80 ≤ n ∧ n ≤ 82 then some (.coolant n)
  else none

/-- An axis parameter by its number. -/
def AxisParams.field (q : AxisParams) : Nat → Int
  | 1 => q.softMin
  | 2 => q.softMax
  | 3 => q.rateMax
  | 4 => q.accel
  | 5 => q.handRate
  | 6 => q.feLimit
  | 7 => q.refDir
  | 8 => q.refFeed
  | 9 => q.refPos
  | 10 => q.refSearchMax
  | 11 => q.clampReleaseLimit
  | 12 => q.clampEngageLimit
  | 13 => q.compOrigin
  | 14 => q.compSpacing
  | _ => q.handReclamp

/-- The axis group with one parameter replaced. -/
def AxisParams.setField (q : AxisParams) (n : Nat) (v : Int) : AxisParams :=
  match n with
  | 1 => { q with softMin := v }
  | 2 => { q with softMax := v }
  | 3 => { q with rateMax := v }
  | 4 => { q with accel := v }
  | 5 => { q with handRate := v }
  | 6 => { q with feLimit := v }
  | 7 => { q with refDir := v }
  | 8 => { q with refFeed := v }
  | 9 => { q with refPos := v }
  | 10 => { q with refSearchMax := v }
  | 11 => { q with clampReleaseLimit := v }
  | 12 => { q with clampEngageLimit := v }
  | 13 => { q with compOrigin := v }
  | 14 => { q with compSpacing := v }
  | _ => { q with handReclamp := v }

/-- The debounce value of a group, 0 to 6. -/
def DebounceTimes.field (d : DebounceTimes) : Nat → Int
  | 0 => d.clamp
  | 1 => d.gear
  | 2 => d.hyd
  | 3 => d.coolant
  | 4 => d.home
  | 5 => d.panel
  | _ => d.drive

/-- The debounce values with one group's replaced. -/
def DebounceTimes.setField (d : DebounceTimes) (g : Nat) (v : Int) : DebounceTimes :=
  match g with
  | 0 => { d with clamp := v }
  | 1 => { d with gear := v }
  | 2 => { d with hyd := v }
  | 3 => { d with coolant := v }
  | 4 => { d with home := v }
  | 5 => { d with panel := v }
  | _ => { d with drive := v }

/-- A value of a range row by its parameter number. -/
def RangeRow.field (r : RangeRow) : Nat → Int
  | 64 => r.min
  | 65 => r.max
  | 66 => r.num
  | _ => r.den

/-- A range row with one value replaced. -/
def RangeRow.setField (r : RangeRow) (n : Nat) (v : Int) : RangeRow :=
  match n with
  | 64 => { r with min := v }
  | 65 => { r with max := v }
  | 66 => { r with num := v }
  | _ => { r with den := v }

/-- A spindle parameter by its number. -/
def SpindleParams.field (q : SpindleParams) : Nat → Int
  | 68 => q.motorMax
  | 69 => q.ramp
  | 70 => q.wiggleCode
  | 71 => q.wiggleHalf
  | 72 => q.shiftLimit
  | 73 => q.stopLimit
  | 74 => q.atsAbs
  | 75 => q.atsPct
  | _ => q.atsDwell

/-- The spindle parameters with one replaced. -/
def SpindleParams.setField (q : SpindleParams) (n : Nat) (v : Int) : SpindleParams :=
  match n with
  | 68 => { q with motorMax := v }
  | 69 => { q with ramp := v }
  | 70 => { q with wiggleCode := v }
  | 71 => { q with wiggleHalf := v }
  | 72 => { q with shiftLimit := v }
  | 73 => { q with stopLimit := v }
  | 74 => { q with atsAbs := v }
  | 75 => { q with atsPct := v }
  | _ => { q with atsDwell := v }

/-- The range table with one row replaced. -/
def WorkingConfig.setRange (c : WorkingConfig) (r : GearRange) (row : RangeRow) : WorkingConfig :=
  match r with
  | .i => { c with rangeI := row }
  | .ii => { c with rangeII := row }
  | .iii => { c with rangeIII := row }
  | .iv => { c with rangeIV := row }

/-- The value of a parameter; PINNED_COUNT reads as the length of the pinned list (R194). -/
def WorkingConfig.get (c : WorkingConfig) : Param → Int
  | .axis a n => (c.axes.get a).field n
  | .reachMin => c.reachMin
  | .reachMax => c.reachMax
  | .debounce g => c.debounce.field g
  | .pinnedCount => c.pinned.length
  | .hydStartLimit => c.hydStartLimit
  | .hydDip => c.hydDip
  | .hydRunon => c.hydRunon
  | .silence p => c.silence.get p
  | .range r n => (c.range r).field n
  | .spindle n => c.spindle.field n
  | .coolant 80 => c.tscMinSpeed
  | .coolant 81 => c.tscPrimeLimit
  | .coolant _ => c.tscLoss

/-- The working configuration with a parameter replaced; a smaller PINNED_COUNT drops zones from the end of the list (R194). -/
def WorkingConfig.put (c : WorkingConfig) (q : Param) (v : Int) : WorkingConfig :=
  match q with
  | .axis a n => { c with axes := c.axes.set a ((c.axes.get a).setField n v) }
  | .reachMin => { c with reachMin := v }
  | .reachMax => { c with reachMax := v }
  | .debounce g => { c with debounce := c.debounce.setField g v }
  | .pinnedCount => { c with pinned := c.pinned.take v.toNat }
  | .hydStartLimit => { c with hydStartLimit := v }
  | .hydDip => { c with hydDip := v }
  | .hydRunon => { c with hydRunon := v }
  | .silence p => { c with silence := c.silence.set p v }
  | .range r n => c.setRange r ((c.range r).setField n v)
  | .spindle n => { c with spindle := c.spindle.setField n v }
  | .coolant 80 => { c with tscMinSpeed := v }
  | .coolant 81 => { c with tscPrimeLimit := v }
  | .coolant _ => { c with tscLoss := v }

/-- The range of an axis parameter by its number (R194). -/
def axisRange : Nat → Int × Int
  | 1 => (-1000000000, 1000000000)
  | 2 => (-1000000000, 1000000000)
  | 3 => (1, 500)
  | 4 => (1000, 5000000)
  | 5 => (1, 200)
  | 6 => (1, 65535)
  | 7 => (0, 1)
  | 8 => (1, 30000000)
  | 9 => (-1000000000, 1000000000)
  | 10 => (1, 200000000)
  | 11 => (100, 10000)
  | 12 => (100, 10000)
  | 13 => (-1000000000, 1000000000)
  | 14 => (1000, 1000000)
  | _ => (200, 60000)

/-- The range of a spindle parameter by its number (R161). -/
def spindleRange : Nat → Int × Int
  | 68 => (1000, 100000)
  | 69 => (1, 65535)
  | 70 => (0, 6553)
  | 71 => (20, 1000)
  | 72 => (500, 20000)
  | 73 => (1000, 60000)
  | 74 => (0, 1000)
  | 75 => (0, 20)
  | _ => (0, 10000)

/-- The range of a parameter (R194). -/
def WorkingConfig.bounds (c : WorkingConfig) : Param → Int × Int
  | .axis _ n => axisRange n
  | .reachMin => (-2000000000, 2000000000)
  | .reachMax => (-2000000000, 2000000000)
  | .debounce _ => (1, 255)
  | .pinnedCount => (0, c.pinned.length)
  | .hydStartLimit => (500, 30000)
  | .hydDip => (20, 5000)
  | .hydRunon => (0, 600000)
  | .silence _ => (20, 2000)
  | .range _ 64 => (1, 12000)
  | .range _ 65 => (1, 12000)
  | .range _ _ => (1, 65535)
  | .spindle n => spindleRange n
  | .coolant 80 => (100, 12000)
  | .coolant 81 => (500, 30000)
  | .coolant _ => (50, 10000)

/-- A value lies in the range of a parameter. -/
def WorkingConfig.inBounds (c : WorkingConfig) (q : Param) (v : Int) : Bool :=
  decide ((c.bounds q).1 ≤ v) && decide (v ≤ (c.bounds q).2)

/-- A row of the range table follows the row before it (R142). -/
def RangeRow.follows (next prev : RangeRow) : Bool :=
  decide (prev.min < next.min) && decide (prev.max < next.max) && decide (next.min ≤ prev.max + 1)

/-- The cross-conditions of R194: soft limits, reach limits, the range table of R142. -/
def WorkingConfig.crossOk (c : WorkingConfig) : Bool :=
  Axis.all.all (fun a => decide ((c.axes.get a).softMin ≤ (c.axes.get a).softMax)) && decide (c.reachMin ≤ c.reachMax) &&
    [c.rangeI, c.rangeII, c.rangeIII, c.rangeIV].all (fun r => decide (r.min ≤ r.max)) &&
    c.rangeII.follows c.rangeI && c.rangeIII.follows c.rangeII && c.rangeIV.follows c.rangeIII

/-! ### The image (R193, section 13.5) -/

/-- The values of one parameter number over all axes. -/
def axisColumn (n : Nat) : List Param := Axis.all.map (fun a => .axis a n)

/-- The values of one parameter number over the four rows. -/
def rangeColumn (n : Nat) : List Param := GearRange.all.map (fun r => .range r n)

/-- The 118 parameters of the image, in ascending number and, within a number, ascending index (section 13.5). -/
def Param.stored : List Param :=
  [1, 2, 3, 4, 5, 6, 7, 8, 9, 10, 11, 12, 13, 14, 15].flatMap axisColumn ++ [.reachMin, .reachMax] ++
    [0, 1, 2, 3, 4, 5, 6].map .debounce ++ [.hydStartLimit, .hydDip, .hydRunon] ++ Port.all.map .silence ++
    [64, 65, 66, 67].flatMap rangeColumn ++ [68, 69, 70, 71, 72, 73, 74, 75, 76].map .spindle ++ [80, 81, 82].map .coolant

/-- A pinned zone in the image: axis set, then lo and hi for X to B, 0 for an unmasked axis. -/
def Zone.encodeStored (z : Zone) : List Byte :=
  encAxisSet (fun a => (PerAxis.get z a).isSome) ::
    (PerAxis.toList z).flatMap (fun i =>
      match i with
      | none => enc4 0 ++ enc4 0
      | some i => enc4 i.lo ++ enc4 i.hi)

/-- The five compensation tables, X to B. -/
def WorkingConfig.encodeTables (c : WorkingConfig) : List Byte := c.comp.toList.flatMap (fun t => t.flatMap enc2)

/-- The bytes of the image before its checksum. -/
def WorkingConfig.imageBody (c : WorkingConfig) : List Byte :=
  1 :: Param.stored.flatMap (fun q => enc4 (c.get q)) ++ enc1 c.pinned.length :: c.pinned.flatMap Zone.encodeStored ++
    c.encodeTables

/-- The sum of bytes. -/
def byteSum : List Byte → Nat
  | [] => 0
  | v :: vs => v.toNat + byteSum vs

/-- The checksum: the two's complement of the 16-bit sum of all the bytes before it (R193). -/
def checksum (bs : List Byte) : Nat := (65536 - byteSum bs % 65536) % 65536

/-- The image of a working configuration (R198, section 13.5). -/
def WorkingConfig.image (c : WorkingConfig) : List Byte := c.imageBody ++ enc2 (checksum c.imageBody : Nat)

/-- Four-byte values, one after the other. -/
def ints4 : List Byte → List Int
  | b3 :: b2 :: b1 :: b0 :: rest => s32 b3 b2 b1 b0 :: ints4 rest
  | _ => []

/-- The interval of an axis in a stored zone: lo and hi where the mask names the axis; 0 and 0 are wanted where it does not. -/
def storedInterval (masked : Bool) (lo hi : Int) : Option (Option Interval) :=
  if masked then some (some { lo := lo, hi := hi }) else if lo = 0 ∧ hi = 0 then some none else none

/-- The zone of 41 bytes of the image, if it is valid as check 1 of ZONE SET requires (R193, section 13.5). -/
def decStoredZone (bs : List Byte) : Option Zone :=
  match bs with
  | [] => none
  | mask :: rest =>
    match decAxisSet mask, ints4 rest with
    | some as, [x0, x1, y0, y1, z0, z1, w0, w1, b0, b1] =>
      match storedInterval (as.contains .x) x0 x1, storedInterval (as.contains .y) y0 y1, storedInterval (as.contains .z) z0 z1,
        storedInterval (as.contains .w) w0 w1, storedInterval (as.contains .b) b0 b1 with
      | some i, some j, some k, some l, some m =>
        if Zone.valid { x := i, y := j, z := k, w := l, b := m } then some { x := i, y := j, z := k, w := l, b := m } else none
      | _, _, _, _, _ => none
    | _, _ => none

/-- As many stored zones as asked; none where one is not valid. -/
def decStoredZones : Nat → List Byte → Option (List Zone)
  | 0, _ => some []
  | n + 1, bs =>
    match decStoredZone (bs.take 41), decStoredZones n (bs.drop 41) with
    | some z, some zs => some (z :: zs)
    | _, _ => none

/-- The five tables of 320 values. -/
def splitTables (vs : List Int) : PerAxis (List Int) :=
  { x := vs.take 64, y := (vs.drop 64).take 64, z := (vs.drop 128).take 64, w := (vs.drop 192).take 64, b := (vs.drop 256).take 64 }

/-- The parameter values of the image put in place one after the other. -/
def putAll (c : WorkingConfig) : List (Param × Int) → WorkingConfig
  | [] => c
  | (q, v) :: rest => putAll (c.put q v) rest

/-- The parameters of the image with their values. -/
def storedValues (bs : List Byte) : List (Param × Int) := Param.stored.zip (ints4 ((bs.drop 1).take 472))

/-- The configuration in the bytes of an image, where the count and the zones can be read. -/
def imageConfig (bs : List Byte) : Option WorkingConfig :=
  let c := ((bs.drop 473).headD 0).toNat
  match decStoredZones c (bs.drop 474) with
  | none => none
  | some zs =>
    let tables := splitTables (decValues ((bs.drop (474 + 41 * c)).take 640))
    some { (putAll WorkingConfig.factory (storedValues bs)) with pinned := zs, comp := tables }

/-- The version, the count, the checksum and the ranges of an image hold (R193). -/
def imageSound (bs : List Byte) (c : WorkingConfig) : Bool :=
  let n := ((bs.drop 473).headD 0).toNat
  let sum := (bs.drop (1114 + 41 * n)).take 2
  decide ((bs.headD 0).toNat = 1) &&
    decide ((byteSum (bs.take (1114 + 41 * n)) + u16 (sum.headD 0) ((sum.drop 1).headD 0)) % 65536 = 0) &&
    Param.stored.all (fun q => c.inBounds q (c.get q)) && c.crossOk &&
    c.comp.toList.all (fun t => t.all (fun v => decide (-1000 ≤ v) && decide (v ≤ 1000)))

/-- The working configuration of an image that fulfils every condition of R193 but the acknowledgement; the bytes are those of the
memory from address 0 on. -/
def decodeImage (bs : List Byte) : Option WorkingConfig :=
  if 8 < ((bs.drop 473).headD 0).toNat then none
  else
    match imageConfig bs with
    | none => none
    | some c => if imageSound bs c then some c else none

/-- The longest image: 1,444 bytes (section 13.5). -/
def imageMax : Nat := 1444

/-- The bytes of the serial memory that an image can take up, from address 0 on. -/
def Memory.imageBytes (m : Memory) : List Byte := Memory.readBytes m 0 imageMax

/-- What a read of the image ends with (R193): nothing where a transfer is not acknowledged or a condition fails. -/
def State.readImage (s : State) (acked : Bool) : Option WorkingConfig :=
  if acked then decodeImage (Memory.imageBytes s.serial) else none

/-! ### CONFIG WRITE and CONFIG READ (R196, R197) -/

/-- A RELOAD is in progress. -/
def ConfigStore.reloadOn (c : ConfigStore) : Bool :=
  match c.op with
  | .reloading _ _ => true
  | .storing _ _ => false
  | .idle => false

/-- The store-in-progress flag: an operation is in progress (R198, R199). -/
def ConfigStore.inProgress (c : ConfigStore) : Bool :=
  match c.op with
  | .reloading _ _ => true
  | .storing _ _ => true
  | .idle => false

/-- The claim a group needs (R196, check 3). -/
def State.groupClaim (s : State) (p : Port) : Param → Bool
  | .axis a _ => s.hasClaim p (.axis a)
  | .range _ _ => s.hasClaim p .spindle
  | .spindle _ => s.hasClaim p .spindle
  | .coolant _ => s.hasClaim p .coolant
  | .reachMin => s.hasAllClaims p
  | .reachMax => s.hasAllClaims p
  | .debounce _ => s.hasAllClaims p
  | .pinnedCount => s.hasAllClaims p
  | .hydStartLimit => s.hasAllClaims p
  | .hydDip => s.hasAllClaims p
  | .hydRunon => s.hasAllClaims p
  | .silence _ => s.hasAllClaims p

/-- The unit a group belongs to is at rest (R196, check 4). -/
def State.groupAtRest (s : State) : Param → Bool
  | .axis a _ => s.standing a
  | .range _ _ => decide (s.spindle.state = .stopped)
  | .spindle _ => decide (s.spindle.state = .stopped)
  | .coolant _ => decide (s.coolant.mode = .off)
  | .reachMin => true
  | .reachMax => true
  | .debounce _ => true
  | .pinnedCount => true
  | .hydStartLimit => true
  | .hydDip => true
  | .hydRunon => true
  | .silence _ => true

/-- COMP_ORIGIN and COMP_SPACING want compensation disabled (R196, check 5). -/
def State.groupCompFree (s : State) : Param → Bool
  | .axis a 13 => !(s.axes.get a).compEnabled
  | .axis a 14 => !(s.axes.get a).compEnabled
  | _ => true

/-- The checks on one group (R196). -/
def State.groupCheck (s : State) (p : Port) (q : Param) (v : Int) : ResultCode :=
  if !(s.config.inBounds q v && (s.config.put q v).crossOk) then .badParam
  else if s.store.reloadOn then .busy
  else if !s.groupClaim p q then .notHeld
  else if !s.groupAtRest q then .busy
  else if !s.groupCompFree q then .state
  else .ok

/-- One group of CONFIG WRITE: its result code (R196). -/
def State.groupCode (s : State) (p : Port) (n i : Byte) (v : Int) : ResultCode :=
  match Param.ofId n.toNat i.toNat with
  | none => .badParam
  | some q => s.groupCheck p q v

/-- A group that passes replaces the value (R196). -/
def State.putGroup (s : State) (n i : Byte) (v : Int) : State :=
  match Param.ofId n.toNat i.toNat with
  | none => s
  | some q => { s with config := s.config.put q v }

/-- The groups are judged one by one: the state, the count taken and the first refusal (R196). Bytes that make no whole group are
discarded (R183). -/
def State.writeGroups (p : Port) : State → List Byte → State × Nat × ResultCode
  | s, n :: i :: v3 :: v2 :: v1 :: v0 :: rest =>
    match s.groupCode p n i (s32 v3 v2 v1 v0) with
    | .ok =>
      let r := State.writeGroups p (s.putGroup n i (s32 v3 v2 v1 v0)) rest
      (r.1, r.2.1 + 1, r.2.2)
    | c =>
      let r := State.writeGroups p s rest
      (r.1, r.2.1, c)
  | s, _ => (s, 0, .ok)

/-- CONFIG WRITE (R196). -/
def State.effConfigWrite (s : State) (p : Port) (bs : List Byte) : Effect :=
  if bs.length % 6 = 0 then
    let r := State.writeGroups p s bs
    .taken r.1 [enc1 r.2.1, enc1 r.2.2.code]
  else .refuse .badParam

/-- The reports of a list of parameter ids; none where one names no parameter (R197). -/
def WorkingConfig.reports (c : WorkingConfig) : List Byte → Option (List Byte)
  | [] => some []
  | [_] => none
  | n :: i :: rest =>
    match Param.ofId n.toNat i.toNat, c.reports rest with
    | some q, some more => some (n :: i :: enc4 (c.get q) ++ more)
    | _, _ => none

/-- CONFIG READ (R197). -/
def State.effConfigRead (s : State) (bs : List Byte) : Effect :=
  if 40 < bs.length then .refuse .badParam
  else
    match s.config.reports bs with
    | none => .refuse .badParam
    | some r => .read (enc1 (bs.length / 2) :: r)

/-! ### CONFIG STORE and CONFIG RELOAD (R198, R199) -/

/-- CONFIG STORE (R198). -/
def State.effConfigStore (s : State) (p : Port) : Effect :=
  if !s.hasAllClaims p then .refuse .notHeld
  else if s.store.inProgress then .refuse .busy
  else .taken { s with store := { s.store with op := .storing p s.config.image } } []

/-- CONFIG RELOAD (R199). -/
def State.effConfigReload (s : State) (p : Port) : Effect :=
  if s.machine ≠ .estop ∧ s.machine ≠ .resetWait then .refuse .state
  else if s.store.inProgress then .refuse .busy
  else .taken { s with store := { s.store with op := .reloading p false } } []

/-- The operation ends. -/
def State.endOp (s : State) : State := { s with store := { s.store with op := .idle } }

/-- The DEFAULTS flag is cleared or set. -/
def State.setDefaults (s : State) (f : Bool) : State := { s with store := { s.store with defaults := f } }

/-- A STORE ends (R198). -/
def State.storeEnd (s : State) (outcome : StoreOutcome) : State :=
  match s.store.op with
  | .idle => s
  | .reloading _ _ => s
  | .storing p image =>
    match outcome with
    | .ok =>
      (({ s with serial := Memory.writeBytes s.serial 0 image } : State).endOp.setDefaults false).raise p (.configDone true)
    | .failed landed => (({ s with serial := Memory.writeBytes s.serial 0 landed } : State).endOp).raise p (.configDone false)

/-- The working configuration takes effect with its pinned list in the zone table (R106). -/
def State.placeConfig (s : State) (c : WorkingConfig) : State := { s with config := c, zones := placePinned c.pinned }

/-- Compensation is disabled on an axis, k set to 0 and T to O (R80). -/
def State.dropComp (s : State) (a : Axis) : State :=
  (s.updAxis a (fun u => { u with compEnabled := false })).setCmd a (s.axes.get a).out

/-- A RELOAD ends (R199). -/
def State.reloadEnd (s : State) (acked : Bool) : State :=
  match s.store.op with
  | .idle => s
  | .storing _ _ => s
  | .reloading p ran =>
    match s.readImage acked with
    | none => s.endOp.raise p (.configDone false)
    | some c =>
      if ran then s.endOp.raise p (.configDone false)
      else ((Axis.all.foldl State.dropComp (s.endOp.placeConfig c)).setDefaults false).raise p (.configDone true)

/-! ### The end of the start-up load (R193) -/

/-- The panel hold input is read as START ends (R176). -/
def State.panelStart (s : State) : State :=
  { s with holds := { s.holds with panel := s.holds.panel || s.inputs.panelHold } }

/-- The drive-ready check of an axis as START ends (R70). -/
def State.driveStart (s : State) (a : Axis) : State :=
  if s.inputs.driveReady.get a then s else s.axisFault a .drive

/-- The gear range reading and the spindle drive-ready check as START ends (R141, R157). -/
def State.spindleStart (s : State) : State :=
  let t := s.updSpindle (fun sp => { sp with engaged := s.rangeReading })
  if s.inputs.spindleReady then t else t.spindleFault .drive

/-- The coolant level as START ends (R166). -/
def State.coolantStart (s : State) : State := if s.inputs.lowLevel then s.coolantLowLevel else s

/-- The machine leaves START by the chain, and the blocks make their start-up readings (R172, R193). -/
def State.leaveStart (s : State) : State :=
  let t := (s.enterMachine (if s.inputs.chainClosed then .resetWait else .estop)).panelStart
  let t := Axis.all.foldl State.clampStart (Axis.all.foldl State.driveStart t)
  let t := t.spindleStart.coolantStart
  if s.inputs.chainClosed then t.endFollowUps else t

/-- The configuration with which START ends: the image's, or the factory defaults with the DEFAULTS flag set (R193). -/
def State.loadConfig (s : State) (acked : Bool) : State :=
  match s.readImage acked with
  | some c => s.placeConfig c
  | none => (s.placeConfig WorkingConfig.factory).setDefaults true

/-- The start-up read ends (R193). -/
def State.loadEnd (s : State) (acked : Bool) : State :=
  if s.machine = .start then State.settle s (s.loadConfig acked).leaveStart else s

/-! ### The reset input (R192) -/

/-- What the serial memory holds after a reset: a STORE that is cut leaves part of its image (R198). -/
def State.serialAfterReset (s : State) (landed : List Byte) : List Host.Cell :=
  match s.store.op with
  | .storing _ _ => Memory.writeBytes s.serial 0 landed
  | .reloading _ _ => s.serial
  | .idle => s.serial

/-- A port at its reset values; the level of select is the master's and stays (R180, log entry 9). -/
def LinkPort.resetKept (l : LinkPort) : LinkPort := { LinkPort.reset with select := l.select }

/-- The module resets: every block at its reset value, the input levels at their raw levels (R192, R195). -/
def State.resetModule (s : State) (raw : Inputs) (landed : List Byte) : State :=
  { State.reset with
    pending := s.pending, now := s.now, choices := s.choices, inputs := raw, serial := s.serialAfterReset landed
    ports := mapPorts LinkPort.resetKept s.ports }

/-- A low pulse on the reset input: ignored below 5 microseconds, taken above 20, and a free value between (R192, log entry 8). -/
def State.resetInput (s : State) (width : Nat) (raw : Inputs) (landed : List Byte) : State :=
  if width < 5000 then s
  else if 20000 < width then s.resetModule raw landed
  else if Config.resetTaken s.choices then ({ s with choices := s.choices + 1 } : State).resetModule raw landed
  else { s with choices := s.choices + 1 }

end Sys2Proof.Machine
end

