-- ==== Sys2Proof/Machine/Events.lean ====
section
/-! DEFINITION. Machine/Events.lean: the meanings of the rows that are not link commands: the reset input, the ends of timed
operations, the chain, the motion period, the inputs and the timers. -/

namespace Sys2Proof.Machine

/-- An event acts, and what follows from it follows. -/
def State.event (s t : State) : Host.Outcome State Fault Refusal := .next (State.settle s t)

/-- A change of the probe's level acts; a level that stands already is no event (log entry 5). -/
def State.change (s : State) (was is : Bool) (t : State) : Host.Outcome State Fault Refusal :=
  if was = is then .next s else s.event t

/-- A switch row (R195, log entry 5). A change of the raw level starts or stops the debounce timer; the end of a running debounce
time makes the raw level the debounced one, on which the input's block acts. -/
def State.switchRow (s : State) (i : SwitchInput) (e : SwitchEdge) (act : State → Bool → State) : Host.Outcome State Fault Refusal :=
  match e with
  | .raw active => .next (s.setDebounce i (s.debounceTimer i active))
  | .stood =>
    if (s.conditioner.get i).isSome then s.event (act (s.setDebounce i none) (!Inputs.level s.inputs i)) else .next s

/-! ### Reset, load, chain, period -/

/-- RESET_INPUT (R192). -/
def execResetInput (width : Nat) (raw : Inputs) (landed : List Byte) (s : State) : Host.Outcome State Fault Refusal :=
  .next (s.resetInput width raw landed)

/-- START_UP_LOAD_END (R193). -/
def execStartUpLoadEnd (acked : Bool) (s : State) : Host.Outcome State Fault Refusal := .next (s.loadEnd acked)

/-- CHAIN_OPENS (R173). -/
def execChainOpens (s : State) : Host.Outcome State Fault Refusal := .next s.chainOpens

/-- CHAIN_CLOSES (R174). -/
def execChainCloses (s : State) : Host.Outcome State Fault Refusal := .next s.chainCloses

/-- MOTION_PERIOD (R55). -/
def execMotionPeriod (s : State) : Host.Outcome State Fault Refusal := .next s.motionPeriod

/-! ### Axis inputs -/

/-- ENCODER_COUNT (R69). -/
def execEncoderCount (a : Axis) (chA chB : Bool) (s : State) : Host.Outcome State Fault Refusal := s.event (s.encoderChange a chA chB)

/-- INDEX_EDGE (R91). -/
def execIndexEdge (a : Axis) (s : State) : Host.Outcome State Fault Refusal := s.event (s.indexCapture a)

/-- HOME_SWITCH_CHANGE (R90). -/
def execHomeSwitchChange (a : Axis) (e : SwitchEdge) (s : State) : Host.Outcome State Fault Refusal :=
  s.switchRow (.home a) e (fun t active => t.homeChange a active)

/-- PROBE_EDGE (R65). -/
def execProbeEdge (active : Bool) (s : State) : Host.Outcome State Fault Refusal :=
  s.change s.inputs.probe active (s.probeChange active)

/-- AXIS_DRIVE_READY_DROP (R70). -/
def execAxisDriveReadyDrop (a : Axis) (e : SwitchEdge) (s : State) : Host.Outcome State Fault Refusal :=
  s.switchRow (.driveReady a) e (fun t ready => t.driveChange a ready)

/-! ### Clamps and hydraulics -/

/-- The level of a clamp switch. -/
def Inputs.clampSwitch (i : Inputs) (a : Axis) : ClampSwitch → Bool
  | .engaged => i.clampEngaged.get a
  | .released => i.clampReleased.get a

/-- The inputs with a clamp switch at a level. -/
def Inputs.setClampSwitch (i : Inputs) (a : Axis) (which : ClampSwitch) (active : Bool) : Inputs :=
  match which with
  | .engaged => { i with clampEngaged := i.clampEngaged.set a active }
  | .released => { i with clampReleased := i.clampReleased.set a active }

/-- A clamp switch changes (R130); in START the switches are not judged (R126). -/
def State.clampSwitchTo (s : State) (a : Axis) (which : ClampSwitch) (active : Bool) : State :=
  let t : State := { s with inputs := Inputs.setClampSwitch s.inputs a which active }
  if s.machine = .start then t else t.clampWatch a which active

/-- CLAMP_SWITCH_CHANGE (R130). -/
def execClampSwitchChange (a : Axis) (which : ClampSwitch) (e : SwitchEdge) (s : State) : Host.Outcome State Fault Refusal :=
  s.switchRow (.clamp a which) e (fun t active => t.clampSwitchTo a which active)

/-- The release timer of a clamp expires (R128). -/
def State.releaseExpiry (s : State) (a : Axis) : State :=
  if (s.clamps.get a).state = .releasing ∧ (s.clamps.get a).timer.isSome then s.clampFails a .releaseTimeout else s

/-- CLAMP_RELEASE_TIMER_EXPIRY (R128). -/
def execClampReleaseTimerExpiry (a : Axis) (s : State) : Host.Outcome State Fault Refusal := s.event (s.releaseExpiry a)

/-- The engage timer of a clamp expires (R129). -/
def State.engageExpiry (s : State) (a : Axis) : State :=
  if (s.clamps.get a).state = .engaging ∧ (s.clamps.get a).timer.isSome then s.clampFails a .engageTimeout else s

/-- CLAMP_ENGAGE_TIMER_EXPIRY (R129). -/
def execClampEngageTimerExpiry (a : Axis) (s : State) : Host.Outcome State Fault Refusal := s.event (s.engageExpiry a)

/-- The pressure switch changes (R122, R123). -/
def State.hydPressureTo (s : State) (active : Bool) : State :=
  ({ s with inputs := { s.inputs with hydPressure := active } } : State).hydPressure active

/-- HYD_PRESSURE_SWITCH_CHANGE (R122). -/
def execHydPressureSwitchChange (e : SwitchEdge) (s : State) : Host.Outcome State Fault Refusal :=
  s.switchRow .hydPressure e State.hydPressureTo

/-- The start timer expires in STARTING (R122). -/
def State.startExpiry (s : State) : State :=
  if s.hyd.state = .starting ∧ s.hyd.startTimer.isSome then s.hydLost else s

/-- HYD_START_TIMER_EXPIRY (R122). -/
def execHydStartTimerExpiry (s : State) : Host.Outcome State Fault Refusal := s.event s.startExpiry

/-- The dip timer expires in UP (R123). -/
def State.dipExpiry (s : State) : State :=
  if s.hyd.state = .up ∧ s.hyd.dipTimer.isSome then s.hydLost else s

/-- HYD_DIP_TIMER_EXPIRY (R123). -/
def execHydDipTimerExpiry (s : State) : Host.Outcome State Fault Refusal := s.event s.dipExpiry

/-- The run-on timer expires in UP; it runs only while the demand set is empty (R123). -/
def State.runonExpiry (s : State) : State :=
  if s.hyd.state = .up ∧ s.hyd.runonTimer.isSome ∧ s.demand = false then s.updHyd (fun _ => Hyd.stopped) else s

/-- HYD_RUNON_TIMER_EXPIRY (R123). -/
def execHydRunonTimerExpiry (s : State) : Host.Outcome State Fault Refusal := s.event s.runonExpiry

/-! ### Hand follower and panel -/

/-- HAND_RECLAMP_TIMER_EXPIRY (R118). -/
def execHandReclampTimerExpiry (a : Axis) (s : State) : Host.Outcome State Fault Refusal := s.event (s.reclampExpiry a)

/-- ENABLING_SWITCH_DROP (R114). -/
def execEnablingSwitchDrop (e : SwitchEdge) (s : State) : Host.Outcome State Fault Refusal :=
  s.switchRow .enabling e State.enablingChange

/-- PANEL_HOLD_INPUT_CHANGE (R176). -/
def execPanelHoldInputChange (e : SwitchEdge) (s : State) : Host.Outcome State Fault Refusal :=
  s.switchRow .panelHold e State.panelChange

/-! ### Queue timers -/

/-- DWELL_TIMER_EXPIRY (R35). -/
def execDwellTimerExpiry (p : Port) (s : State) : Host.Outcome State Fault Refusal := s.event (s.dwellExpiry p)

/-- WAIT_TIMER_EXPIRY (R39). -/
def execWaitTimerExpiry (p : Port) (s : State) : Host.Outcome State Fault Refusal := s.event (s.waitExpiry p)

/-! ### Spindle -/

/-- SPINDLE_ENCODER_EDGE (R138). -/
def execSpindleEncoderEdge (t : Nat) (s : State) : Host.Outcome State Fault Refusal :=
  s.event (deliver (s.tachEdge t))

/-- TACH_WINDOW_LIMIT_EXPIRY (R138). -/
def execTachWindowLimitExpiry (s : State) : Host.Outcome State Fault Refusal := s.event (deliver s.tachLimit)

/-- TACH_GATE_END (R139). -/
def execTachGateEnd (s : State) : Host.Outcome State Fault Refusal := s.event (deliver s.tachGate)

/-- STANDSTILL_TIMER_EXPIRY (R140). -/
def execStandstillTimerExpiry (s : State) : Host.Outcome State Fault Refusal := s.event s.standstillExpiry

/-- AT_SPEED_TIMER_EXPIRY (R146). -/
def execAtSpeedTimerExpiry (s : State) : Host.Outcome State Fault Refusal := s.event s.atSpeedExpiry

/-- SPINDLE_STOP_TIMER_EXPIRY (R150). -/
def execSpindleStopTimerExpiry (s : State) : Host.Outcome State Fault Refusal := s.event s.stopExpiry

/-- SHIFT_STAGE_TIMER_EXPIRY (R153). -/
def execShiftStageTimerExpiry (s : State) : Host.Outcome State Fault Refusal := s.event s.stageExpiry

/-- WIGGLE_HALF_TIMER_EXPIRY (R152). -/
def execWiggleHalfTimerExpiry (s : State) : Host.Outcome State Fault Refusal := s.event s.halfExpiry

/-- GEAR_SWITCH_CHANGE (R152). -/
def execGearSwitchChange (g : GearSwitch) (e : SwitchEdge) (s : State) : Host.Outcome State Fault Refusal :=
  s.switchRow (.gear g) e (fun t active => t.gearChange g active)

/-- SPINDLE_DRIVE_READY_DROP (R157). -/
def execSpindleDriveReadyDrop (e : SwitchEdge) (s : State) : Host.Outcome State Fault Refusal :=
  s.switchRow .spindleReady e State.spindleReadyChange

/-! ### Coolant -/

/-- COOLANT_PRESSURE_SWITCH_CHANGE (R165). -/
def execCoolantPressureSwitchChange (e : SwitchEdge) (s : State) : Host.Outcome State Fault Refusal :=
  s.switchRow .coolantPressure e State.coolantPressureChange

/-- TSC_PRIME_TIMER_EXPIRY (R165). -/
def execTscPrimeTimerExpiry (s : State) : Host.Outcome State Fault Refusal := s.event s.primeExpiry

/-- TSC_LOSS_TIMER_EXPIRY (R165). -/
def execTscLossTimerExpiry (s : State) : Host.Outcome State Fault Refusal := s.event s.lossExpiry

/-- LOW_LEVEL_SWITCH_CHANGE (R166). -/
def execLowLevelSwitchChange (e : SwitchEdge) (s : State) : Host.Outcome State Fault Refusal :=
  s.switchRow .lowLevel e State.lowLevelChange

/-! ### Configuration store -/

/-- CONFIG_STORE_END (R198). -/
def execConfigStoreEnd (outcome : StoreOutcome) (s : State) : Host.Outcome State Fault Refusal := s.event (s.storeEnd outcome)

/-- CONFIG_RELOAD_END (R199). -/
def execConfigReloadEnd (acked : Bool) (s : State) : Host.Outcome State Fault Refusal := s.event (s.reloadEnd acked)

end Sys2Proof.Machine
end

