-- ==== Sys2Proof/Machine/Links.lean ====
section
/-! DEFINITION. Machine/Links.lean: the link ports: framing, the admission of commands, STATUS, IDENTIFY, READ EVENTS, REJOIN,
breaks and silence (11_link_ports.md, R180 to R191), and the meanings of the link commands' rows. -/

namespace Sys2Proof.Machine

/-! ### The catalogue (section 13.2) -/

/-- The command of a command byte. -/
def Cmd.ofCode : Nat → Option Cmd
  | 1 => some .status
  | 2 => some .identify
  | 3 => some .readEvents
  | 4 => some .rejoin
  | 16 => some .machineReset
  | 17 => some .hold
  | 18 => some .releaseHold
  | 19 => some .setOverride
  | 32 => some .claim
  | 33 => some .release
  | 34 => some .handOver
  | 35 => some .readClaims
  | 48 => some .queueEntry
  | 49 => some .flush
  | 50 => some .continueQueue
  | 51 => some .readQueue
  | 52 => some .readProbe
  | 64 => some .readPositions
  | 65 => some .preset
  | 66 => some .compWindow
  | 67 => some .compData
  | 68 => some .compEnable
  | 69 => some .compDisable
  | 70 => some .readComp
  | 80 => some .zoneSet
  | 81 => some .zoneClear
  | 82 => some .zonePurge
  | 83 => some .readZones
  | 96 => some .handwheel
  | 112 => some .clamp
  | 113 => some .spindle
  | 114 => some .shift
  | 115 => some .coolant
  | 128 => some .configWrite
  | 129 => some .configRead
  | 130 => some .configStore
  | 131 => some .configReload
  | _ => none

/-- The lengths a command allows (section 13.2). -/
def Cmd.lengths : Cmd → Nat × Nat
  | .setOverride => (3, 3)
  | .claim => (2, 2)
  | .release => (1, 1)
  | .handOver => (2, 2)
  | .queueEntry => (4, 38)
  | .readQueue => (1, 1)
  | .preset => (5, 5)
  | .compWindow => (4, 4)
  | .compData => (1, 120)
  | .compEnable => (1, 1)
  | .compDisable => (1, 1)
  | .readComp => (3, 3)
  | .zoneSet => (10, 42)
  | .zoneClear => (1, 1)
  | .zonePurge => (9, 41)
  | .handwheel => (4, 4)
  | .clamp => (2, 2)
  | .spindle => (3, 3)
  | .shift => (1, 1)
  | .coolant => (1, 1)
  | .configWrite => (1, 120)
  | .configRead => (1, 120)
  | .status => (0, 0)
  | .identify => (0, 0)
  | .readEvents => (0, 0)
  | .rejoin => (0, 0)
  | .machineReset => (0, 0)
  | .hold => (0, 0)
  | .releaseHold => (0, 0)
  | .readClaims => (0, 0)
  | .flush => (0, 0)
  | .continueQueue => (0, 0)
  | .readProbe => (0, 0)
  | .readPositions => (0, 0)
  | .readZones => (0, 0)
  | .configStore => (0, 0)
  | .configReload => (0, 0)

/-- A length is one the command allows (R184, check 4). -/
def Cmd.lengthOk (c : Cmd) (n : Nat) : Bool := decide (c.lengths.1 ≤ n) && decide (n ≤ c.lengths.2)

/-- STATUS and IDENTIFY are taken in START (R184, check 2). -/
def Cmd.inStart : Cmd → Bool
  | .status => true
  | .identify => true
  | _ => false

/-- The four commands a lost port still answers (R184, check 3). -/
def Cmd.inLost : Cmd → Bool
  | .status => true
  | .identify => true
  | .readEvents => true
  | .rejoin => true
  | _ => false

/-! ### STATUS, IDENTIFY, READ EVENTS and REJOIN -/

/-- The state STATUS reports: in START the spindle's reset values (R190, log entry 26). -/
def State.statusView (s : State) : State := if s.machine = .start then s.updSpindle (fun _ => Spindle.reset) else s

/-- The two bytes of a clamp in STATUS (section 13.4). -/
def Clamp.report (c : Clamp) : List Byte := [enc1 c.state.code, enc1 (c.state.causeCode + if c.auto then 128 else 0)]

/-- The range shifted to. -/
def SpindleState.target : SpindleState → Option GearRange
  | .shifting r _ => some r
  | _ => none

/-- The code of the stage of a shift, 0 for none. -/
def SpindleState.stageCode : SpindleState → Nat
  | .shifting _ st => st.code
  | _ => 0

/-- The spindle's bytes in STATUS, offsets 21 to 37 (section 13.4). -/
def Spindle.report (sp : Spindle) : List Byte :=
  [enc1 sp.state.code, enc1 sp.state.causeCode] ++ enc2 sp.speed ++ [enc1 sp.dir.code] ++ enc2 sp.effective ++
    [encRange sp.engaged, encRange sp.state.target, enc1 sp.state.stageCode] ++ enc2 sp.cmdCode ++ [encDrive sp.cmdDir] ++
    enc2 sp.outCode ++ [encDrive sp.relay] ++
    [enc1 (encBits [sp.atSpeed, sp.standstill,
      match sp.tach with
      | .count _ => true
      | .period _ => false])]

/-- The coolant's bytes in STATUS, offsets 41 to 45 (section 13.4). -/
def Coolant.report (c : Coolant) : List Byte :=
  [enc1 c.mode.code, enc1 c.flood.code, enc1 c.flood.causeCode, enc1 c.through.code, enc1 c.through.causeCode]

/-- The probe latch in STATUS: the owner, 0 for FREE, and the owner's tag (section 13.4, log entry 20). -/
def ProbeLatch.report (l : ProbeLatch) : List Byte :=
  match l.owner with
  | none => [0, 255, 255]
  | some (p, tag) => enc1 (Port.code p) :: enc2 tag.toNat

/-- The level bits of STATUS (section 13.4, offset 9). -/
def Inputs.report (i : Inputs) : Byte :=
  enc1 (encBits [i.enabling, i.panelHold, i.probe, i.chainClosed, i.hydPressure, i.coolantPressure, i.lowLevel])

/-- The contents of STATUS after the result code (section 13.4). -/
def State.statusReport (s : State) (p : Port) : List Byte :=
  let l := s.ports.get p
  [enc1 (encBits [l.cut, l.eventsLost]), enc1 l.events.length,
    enc1 (encBits (Port.all.map (fun q => decide ((s.ports.get q).state = .lost)))), enc1 s.machine.code, encHolds s.holds,
    enc1 s.overrides.feed, enc1 s.overrides.rapid, enc1 s.overrides.spindle, Inputs.report s.inputs, enc1 s.hyd.state.code] ++
    s.clamps.toList.flatMap Clamp.report ++ s.spindle.report ++
    [enc1 (CylPos.code s.readA + 16 * CylPos.code s.readB)] ++ enc2 (min s.spindle.measured 65535 : Nat) ++ s.coolant.report ++
    Port.all.map (fun q => enc1 (s.queues.get q).state.code) ++ s.latch.report ++
    [enc1 (encBits [s.store.defaults, s.store.inProgress])]

/-- STATUS (R190). -/
def State.effStatus (s : State) (p : Port) : Effect := .read (s.statusView.statusReport p)

/-- The part name (R191), one byte each (R201): the characters' ASCII codes (PRESUMED, log entry 41). -/
def partName : List Nat := [86, 97, 119, 115, 101, 108, 32, 72, 66, 45, 51, 49, 48]

/-- IDENTIFY (R191, R201). -/
def State.effIdentify (s : State) (p : Port) : Effect :=
  .read (enc1 partName.length :: partName.map enc1 ++ [1, enc1 (Port.code p)] ++ enc4 (s.config.silence.get p))

/-- READ EVENTS (R186). -/
def State.effReadEvents (s : State) (p : Port) : Effect :=
  let l := s.ports.get p
  .ownPort (s.updPort p (fun l => { l with events := l.events.drop 8, eventsLost := false }))
    ([encFlag l.eventsLost, enc1 (l.events.take 8).length, enc1 (l.events.drop 8).length] ++
      (l.events.take 8).flatMap Event.encode)

/-- REJOIN (R189). -/
def State.effRejoin (s : State) (p : Port) : Effect := .ownPort (s.updPort p (fun l => { l with state := .active })) []

/-! ### Deciding a command (R181, R184) -/

/-- An admitted command is judged by its owning block. -/
def State.runCommand (s : State) (p : Port) (c : Cmd) (bs : List Byte) : Effect :=
  match c with
  | .status => s.effStatus p
  | .identify => s.effIdentify p
  | .readEvents => s.effReadEvents p
  | .rejoin => s.effRejoin p
  | .machineReset => s.effMachineReset
  | .hold => s.effHold p
  | .releaseHold => s.effReleaseHold p
  | .setOverride => s.effSetOverride bs
  | .claim => s.effClaim p bs
  | .release => s.effRelease p bs
  | .handOver => s.effHandOver p bs
  | .readClaims => s.effReadClaims
  | .queueEntry => s.effQueueEntry p bs
  | .flush => s.effFlush p
  | .continueQueue => s.effContinue p
  | .readQueue => s.effReadQueue bs
  | .readProbe => s.effReadProbe p
  | .readPositions => s.effReadPositions
  | .preset => s.effPreset p bs
  | .compWindow => s.effCompWindow p bs
  | .compData => s.effCompData p bs
  | .compEnable => s.effCompEnable p bs
  | .compDisable => s.effCompDisable p bs
  | .readComp => s.effReadComp bs
  | .zoneSet => s.effZoneSet p bs
  | .zoneClear => s.effZoneClear bs
  | .zonePurge => s.effZonePurge bs
  | .readZones => s.effReadZones
  | .handwheel => s.effHandwheel p bs
  | .clamp => s.effClamp p bs
  | .spindle => s.effSpindle p bs
  | .shift => s.effShift p bs
  | .coolant => s.effCoolant p bs
  | .configWrite => s.effConfigWrite p bs
  | .configRead => s.effConfigRead bs
  | .configStore => s.effConfigStore p
  | .configReload => s.effConfigReload p

/-- The four checks on a complete command, and its effect (R184). -/
def State.decideCommand (s : State) (p : Port) (code n : Byte) (bs : List Byte) : Effect :=
  match Cmd.ofCode code.toNat with
  | none => .refuse .unknown
  | some c =>
    if s.machine = .start ∧ c.inStart = false then .refuse .notReady
    else if (s.ports.get p).state = .lost ∧ c.inLost = false then .refuse .lost
    else if !c.lengthOk n.toNat then .refuse .badParam
    else s.runCommand p c bs

/-- The state an effect leaves, with the other blocks' part in the same event and the port's silence timer (R181, R187). -/
def State.commit (s : State) (p : Port) (e : Effect) : State :=
  match e.changed with
  | none => s.restartSilence p
  | some t => (if e.settles then State.settle s t else t).restartSilence p

/-- A port with its reply ready and the cut flag cleared (R181, R183): the length byte, then the reply. DESIGN CHOICE (log entry 40):
the flag is cleared at a complete REJOIN as at any other command, although R183 also says that REJOIN leaves it as it is. -/
def LinkPort.answer (l : LinkPort) (reply : List Byte) : LinkPort :=
  { l with phase := .reply (enc1 reply.length :: reply), cut := false }

/-- A command becomes complete: it is decided and its reply is ready, in one event (R181). -/
def State.completeCommand (s : State) (p : Port) (code n : Byte) (bs : List Byte) : State :=
  let e := s.decideCommand p code n bs
  (s.commit p e).updPort p (fun l => l.answer e.reply)

/-! ### Framing (R180) -/

/-- A port in another phase. -/
def State.setPhase (s : State) (p : Port) (ph : Phase) : State := s.updPort p (fun l => { l with phase := ph })

/-- The phase after a reply byte is clocked out (R180). -/
def replyNext : List Byte → Phase
  | [] => .spent
  | [_] => .spent
  | _ :: m :: rest => .reply (m :: rest)

/-- A whole byte arrives at a port (R180). -/
def State.clockByte (p : Port) (s : State) (v : Byte) : State :=
  match (s.ports.get p).phase with
  | .idle => s.setPhase p (.length v)
  | .length code =>
    if v = 0 ∨ 120 < v.toNat then s.completeCommand p code v [] else s.setPhase p (.parameters code v [])
  | .parameters code n got =>
    if n.toNat ≤ got.length + 1 then s.completeCommand p code n (got ++ [v]) else s.setPhase p (.parameters code n (got ++ [v]))
  | .reply left => s.setPhase p (replyNext left)
  | .spent => s

/-- The bits of a byte in progress at a port. -/
def State.setBits (s : State) (p : Port) (bits : List Bool) : State := s.updPort p (fun l => { l with bits := bits })

/-- The bits of a byte, most significant first (R180). -/
def byteBits (v : Byte) : List Bool := [7, 6, 5, 4, 3, 2, 1, 0].map v.getLsbD

/-- Bits as they arrive: every eight make a byte, and those that make none are left (R180). -/
def wholeBytes : List Bool → List Byte × List Bool
  | b7 :: b6 :: b5 :: b4 :: b3 :: b2 :: b1 :: b0 :: rest =>
    let r := wholeBytes rest
    (enc1 (encBits [b0, b1, b2, b3, b4, b5, b6, b7]) :: r.1, r.2)
  | bits => ([], bits)

/-- What a master clocks in (R180): while select is high it is ignored; while it is low its bits follow those of the byte in
progress, the whole bytes arrive one after the other, and the bits after them stand in progress. -/
def State.clockIn (s : State) (p : Port) (code : Byte) (c : Clocked) : State :=
  let l := s.ports.get p
  if l.select then s
  else
    let r := wholeBytes (l.bits ++ (code :: c.bytes).flatMap byteBits ++ c.bits)
    (r.1.foldl (State.clockByte p) (s.setBits p [])).setBits p r.2

/-- The level of data out (R180): none while select is high and the port does not drive it; in REPLY the bit of the next reply byte
that the byte in progress has come to, and otherwise the bits of zero bytes. -/
def LinkPort.dataOut (l : LinkPort) : Option Bool :=
  if l.select then none
  else
    match l.phase with
    | .reply (v :: _) => some ((byteBits v).getD l.bits.length false)
    | _ => some false

/-! ### Select: pauses and breaks (R182, R183) -/

/-- The break time in ms (R182). -/
def breakTime : Nat := 2

/-- Select rises: the bits of a byte in progress are discarded and the timing starts (R182). -/
def LinkPort.selectRise (l : LinkPort) : LinkPort :=
  if l.select then l else { l with select := true, bits := [], breakTimer := some breakTime }

/-- Select falls: the timing ends, and the frame goes on in its phase (R182). -/
def LinkPort.selectFall (l : LinkPort) : LinkPort := { l with select := false, breakTimer := none }

/-- What a cut setting command takes: its complete groups, where its length test passes (R183). -/
def State.takeCut (s : State) (p : Port) (code n : Byte) (got : List Byte) : State :=
  if s.machine = .start ∨ (s.ports.get p).state = .lost then s
  else
    match Cmd.ofCode code.toNat with
    | some .setOverride => if n.toNat = 3 then State.settle s (s.takeOverrides got) else s
    | some .compData =>
      if n.toNat % 2 = 1 then
        match got with
        | [] => s
        | ax :: rest =>
          match Axis.ofCode ax.toNat with
          | none => s
          | some a =>
            match (s.takeValues p a (decValues rest)).changed with
            | none => s
            | some t => State.settle s t
      else s
    | some .configWrite => if n.toNat % 6 = 0 then State.settle s (State.writeGroups p s got).1 else s
    | _ => s

/-- A port after a break that cuts a command: IDLE, with the cut flag set (R183). -/
def LinkPort.cutShort (l : LinkPort) : LinkPort := { l with phase := .idle, bits := [], breakTimer := none, cut := true }

/-- A port after a break that cuts nothing (R182). -/
def LinkPort.broken (l : LinkPort) : LinkPort := { l with phase := .idle, bits := [], breakTimer := none }

/-- A break (R182, R183): the frame ends and the timing is over. -/
def State.breakFrame (s : State) (p : Port) : State :=
  match (s.ports.get p).phase with
  | .idle => s.updPort p LinkPort.broken
  | .length _ => s.updPort p LinkPort.cutShort
  | .parameters code n got => (s.takeCut p code n got).updPort p LinkPort.cutShort
  | .reply _ => s.updPort p LinkPort.broken
  | .spent => s.updPort p LinkPort.broken

/-- An event on a port's select (R182): the break is taken only where the timing has run without a fall. -/
def State.selectEvent (s : State) (e : SelectEvent) : State :=
  match e.edge with
  | .rises => s.updPort e.port LinkPort.selectRise
  | .falls => s.updPort e.port LinkPort.selectFall
  | .stood => if (s.ports.get e.port).breakTimer.isSome then s.breakFrame e.port else s

/-! ### Silence and loss (R187, R188) -/

/-- A port that enters LOST: its events give way to LINK LOST (R188). -/
def LinkPort.lose (l : LinkPort) : LinkPort :=
  { l with state := .lost, silence := none, events := [.linkLost], eventsLost := false }

/-- A port enters LOST (R188): the orphan stop begins and its hold source leaves the set. -/
def State.losePort (s : State) (p : Port) : State := ((s.updPort p LinkPort.lose).orphan p).setSource p false

/-- The silence timer expires (R187, R188). -/
def State.silenceExpiry (s : State) (p : Port) : State :=
  if (s.ports.get p).silence.isSome then State.settle s (s.losePort p) else s

/-! ### The meanings of the link rows -/

/-- BREAK (R182, R183). -/
def execLinkBreak (e : SelectEvent) (s : State) : Host.Outcome State Fault Refusal := .next (s.selectEvent e)

/-- SILENCE_TIMER_EXPIRY (R188). -/
def execSilenceTimerExpiry (p : Port) (s : State) : Host.Outcome State Fault Refusal := .next (s.silenceExpiry p)

/-- UNKNOWN_COMMAND (R184). -/
def execUnknownCommand (p : Port) (code : Byte) (c : Clocked) (s : State) : Host.Outcome State Fault Refusal :=
  .next (s.clockIn p code c)

/-- STATUS (R190). -/
def execStatus (p : Port) (c : Clocked) (s : State) : Host.Outcome State Fault Refusal := .next (s.clockIn p 1 c)

/-- IDENTIFY (R191). -/
def execIdentify (p : Port) (c : Clocked) (s : State) : Host.Outcome State Fault Refusal := .next (s.clockIn p 2 c)

/-- READ EVENTS (R186). -/
def execReadEvents (p : Port) (c : Clocked) (s : State) : Host.Outcome State Fault Refusal := .next (s.clockIn p 3 c)

/-- REJOIN (R189). -/
def execRejoin (p : Port) (c : Clocked) (s : State) : Host.Outcome State Fault Refusal := .next (s.clockIn p 4 c)

/-- MACHINE RESET (R175). -/
def execMachineReset (p : Port) (c : Clocked) (s : State) : Host.Outcome State Fault Refusal := .next (s.clockIn p 16 c)

/-- HOLD (R177). -/
def execHold (p : Port) (c : Clocked) (s : State) : Host.Outcome State Fault Refusal := .next (s.clockIn p 17 c)

/-- RELEASE HOLD (R177). -/
def execReleaseHold (p : Port) (c : Clocked) (s : State) : Host.Outcome State Fault Refusal := .next (s.clockIn p 18 c)

/-- SET OVERRIDE (R179). -/
def execSetOverride (p : Port) (c : Clocked) (s : State) : Host.Outcome State Fault Refusal := .next (s.clockIn p 19 c)

/-- CLAIM (R3). -/
def execClaim (p : Port) (c : Clocked) (s : State) : Host.Outcome State Fault Refusal := .next (s.clockIn p 32 c)

/-- RELEASE (R6). -/
def execRelease (p : Port) (c : Clocked) (s : State) : Host.Outcome State Fault Refusal := .next (s.clockIn p 33 c)

/-- HAND OVER (R9). -/
def execHandOver (p : Port) (c : Clocked) (s : State) : Host.Outcome State Fault Refusal := .next (s.clockIn p 34 c)

/-- READ CLAIMS (R11). -/
def execReadClaims (p : Port) (c : Clocked) (s : State) : Host.Outcome State Fault Refusal := .next (s.clockIn p 35 c)

/-- QUEUE ENTRY (R20). -/
def execQueueEntry (p : Port) (c : Clocked) (s : State) : Host.Outcome State Fault Refusal := .next (s.clockIn p 48 c)

/-- FLUSH (R43). -/
def execFlush (p : Port) (c : Clocked) (s : State) : Host.Outcome State Fault Refusal := .next (s.clockIn p 49 c)

/-- CONTINUE (R42). -/
def execContinueQueue (p : Port) (c : Clocked) (s : State) : Host.Outcome State Fault Refusal := .next (s.clockIn p 50 c)

/-- READ QUEUE (R47). -/
def execReadQueue (p : Port) (c : Clocked) (s : State) : Host.Outcome State Fault Refusal := .next (s.clockIn p 51 c)

/-- READ PROBE (R48). -/
def execReadProbe (p : Port) (c : Clocked) (s : State) : Host.Outcome State Fault Refusal := .next (s.clockIn p 52 c)

/-- READ POSITIONS (R93). -/
def execReadPositions (p : Port) (c : Clocked) (s : State) : Host.Outcome State Fault Refusal := .next (s.clockIn p 64 c)

/-- PRESET (R88). -/
def execPreset (p : Port) (c : Clocked) (s : State) : Host.Outcome State Fault Refusal := .next (s.clockIn p 65 c)

/-- COMP WINDOW (R82). -/
def execCompWindow (p : Port) (c : Clocked) (s : State) : Host.Outcome State Fault Refusal := .next (s.clockIn p 66 c)

/-- COMP DATA (R83). -/
def execCompData (p : Port) (c : Clocked) (s : State) : Host.Outcome State Fault Refusal := .next (s.clockIn p 67 c)

/-- COMP ENABLE (R85). -/
def execCompEnable (p : Port) (c : Clocked) (s : State) : Host.Outcome State Fault Refusal := .next (s.clockIn p 68 c)

/-- COMP DISABLE (R85). -/
def execCompDisable (p : Port) (c : Clocked) (s : State) : Host.Outcome State Fault Refusal := .next (s.clockIn p 69 c)

/-- READ COMP (R84). -/
def execReadComp (p : Port) (c : Clocked) (s : State) : Host.Outcome State Fault Refusal := .next (s.clockIn p 70 c)

/-- ZONE SET (R101). -/
def execZoneSet (p : Port) (c : Clocked) (s : State) : Host.Outcome State Fault Refusal := .next (s.clockIn p 80 c)

/-- ZONE CLEAR (R103). -/
def execZoneClear (p : Port) (c : Clocked) (s : State) : Host.Outcome State Fault Refusal := .next (s.clockIn p 81 c)

/-- ZONE PURGE (R104). -/
def execZonePurge (p : Port) (c : Clocked) (s : State) : Host.Outcome State Fault Refusal := .next (s.clockIn p 82 c)

/-- READ ZONES (R105). -/
def execReadZones (p : Port) (c : Clocked) (s : State) : Host.Outcome State Fault Refusal := .next (s.clockIn p 83 c)

/-- HANDWHEEL (R110). -/
def execHandwheel (p : Port) (c : Clocked) (s : State) : Host.Outcome State Fault Refusal := .next (s.clockIn p 96 c)

/-- CLAMP (R133). -/
def execClamp (p : Port) (c : Clocked) (s : State) : Host.Outcome State Fault Refusal := .next (s.clockIn p 112 c)

/-- SPINDLE (R148). -/
def execSpindle (p : Port) (c : Clocked) (s : State) : Host.Outcome State Fault Refusal := .next (s.clockIn p 113 c)

/-- SHIFT (R156). -/
def execShift (p : Port) (c : Clocked) (s : State) : Host.Outcome State Fault Refusal := .next (s.clockIn p 114 c)

/-- COOLANT (R168). -/
def execCoolant (p : Port) (c : Clocked) (s : State) : Host.Outcome State Fault Refusal := .next (s.clockIn p 115 c)

/-- CONFIG WRITE (R196). -/
def execConfigWrite (p : Port) (c : Clocked) (s : State) : Host.Outcome State Fault Refusal := .next (s.clockIn p 128 c)

/-- CONFIG READ (R197). -/
def execConfigRead (p : Port) (c : Clocked) (s : State) : Host.Outcome State Fault Refusal := .next (s.clockIn p 129 c)

/-- CONFIG STORE (R198). -/
def execConfigStore (p : Port) (c : Clocked) (s : State) : Host.Outcome State Fault Refusal := .next (s.clockIn p 130 c)

/-- CONFIG RELOAD (R199). -/
def execConfigReload (p : Port) (c : Clocked) (s : State) : Host.Outcome State Fault Refusal := .next (s.clockIn p 131 c)

end Sys2Proof.Machine
end

