-- ==== Sys2Proof/Machine/Dispatch.lean ====
section
/-! DEFINITION. Machine/Dispatch.lean: one arm per command. -/

namespace Sys2Proof.Machine

def exec (i : Instr) (s : State) : Host.Outcome State Fault Refusal :=
  match i with
  | .resetInput width raw landed => Sys2Proof.Machine.execResetInput width raw landed s
  | .startUpLoadEnd acked => Sys2Proof.Machine.execStartUpLoadEnd acked s
  | .chainOpens => Sys2Proof.Machine.execChainOpens s
  | .chainCloses => Sys2Proof.Machine.execChainCloses s
  | .motionPeriod => Sys2Proof.Machine.execMotionPeriod s
  | .encoderCount a chA chB => Sys2Proof.Machine.execEncoderCount a chA chB s
  | .indexEdge a => Sys2Proof.Machine.execIndexEdge a s
  | .homeSwitchChange a e => Sys2Proof.Machine.execHomeSwitchChange a e s
  | .probeEdge active => Sys2Proof.Machine.execProbeEdge active s
  | .axisDriveReadyDrop a e => Sys2Proof.Machine.execAxisDriveReadyDrop a e s
  | .clampSwitchChange a which e => Sys2Proof.Machine.execClampSwitchChange a which e s
  | .clampReleaseTimerExpiry a => Sys2Proof.Machine.execClampReleaseTimerExpiry a s
  | .clampEngageTimerExpiry a => Sys2Proof.Machine.execClampEngageTimerExpiry a s
  | .hydPressureSwitchChange e => Sys2Proof.Machine.execHydPressureSwitchChange e s
  | .hydStartTimerExpiry => Sys2Proof.Machine.execHydStartTimerExpiry s
  | .hydDipTimerExpiry => Sys2Proof.Machine.execHydDipTimerExpiry s
  | .hydRunonTimerExpiry => Sys2Proof.Machine.execHydRunonTimerExpiry s
  | .handReclampTimerExpiry a => Sys2Proof.Machine.execHandReclampTimerExpiry a s
  | .enablingSwitchDrop e => Sys2Proof.Machine.execEnablingSwitchDrop e s
  | .panelHoldInputChange e => Sys2Proof.Machine.execPanelHoldInputChange e s
  | .dwellTimerExpiry p => Sys2Proof.Machine.execDwellTimerExpiry p s
  | .waitTimerExpiry p => Sys2Proof.Machine.execWaitTimerExpiry p s
  | .spindleEncoderEdge t => Sys2Proof.Machine.execSpindleEncoderEdge t s
  | .tachWindowLimitExpiry => Sys2Proof.Machine.execTachWindowLimitExpiry s
  | .tachGateEnd => Sys2Proof.Machine.execTachGateEnd s
  | .standstillTimerExpiry => Sys2Proof.Machine.execStandstillTimerExpiry s
  | .atSpeedTimerExpiry => Sys2Proof.Machine.execAtSpeedTimerExpiry s
  | .spindleStopTimerExpiry => Sys2Proof.Machine.execSpindleStopTimerExpiry s
  | .shiftStageTimerExpiry => Sys2Proof.Machine.execShiftStageTimerExpiry s
  | .wiggleHalfTimerExpiry => Sys2Proof.Machine.execWiggleHalfTimerExpiry s
  | .gearSwitchChange g e => Sys2Proof.Machine.execGearSwitchChange g e s
  | .spindleDriveReadyDrop e => Sys2Proof.Machine.execSpindleDriveReadyDrop e s
  | .coolantPressureSwitchChange e => Sys2Proof.Machine.execCoolantPressureSwitchChange e s
  | .tscPrimeTimerExpiry => Sys2Proof.Machine.execTscPrimeTimerExpiry s
  | .tscLossTimerExpiry => Sys2Proof.Machine.execTscLossTimerExpiry s
  | .lowLevelSwitchChange e => Sys2Proof.Machine.execLowLevelSwitchChange e s
  | .linkBreak e => Sys2Proof.Machine.execLinkBreak e s
  | .silenceTimerExpiry p => Sys2Proof.Machine.execSilenceTimerExpiry p s
  | .configStoreEnd outcome => Sys2Proof.Machine.execConfigStoreEnd outcome s
  | .configReloadEnd acked => Sys2Proof.Machine.execConfigReloadEnd acked s
  | .unknownCommand p code c => Sys2Proof.Machine.execUnknownCommand p code c s
  | .status p c => Sys2Proof.Machine.execStatus p c s
  | .identify p c => Sys2Proof.Machine.execIdentify p c s
  | .readEvents p c => Sys2Proof.Machine.execReadEvents p c s
  | .rejoin p c => Sys2Proof.Machine.execRejoin p c s
  | .machineReset p c => Sys2Proof.Machine.execMachineReset p c s
  | .hold p c => Sys2Proof.Machine.execHold p c s
  | .releaseHold p c => Sys2Proof.Machine.execReleaseHold p c s
  | .setOverride p c => Sys2Proof.Machine.execSetOverride p c s
  | .claim p c => Sys2Proof.Machine.execClaim p c s
  | .release p c => Sys2Proof.Machine.execRelease p c s
  | .handOver p c => Sys2Proof.Machine.execHandOver p c s
  | .readClaims p c => Sys2Proof.Machine.execReadClaims p c s
  | .queueEntry p c => Sys2Proof.Machine.execQueueEntry p c s
  | .flush p c => Sys2Proof.Machine.execFlush p c s
  | .continueQueue p c => Sys2Proof.Machine.execContinueQueue p c s
  | .readQueue p c => Sys2Proof.Machine.execReadQueue p c s
  | .readProbe p c => Sys2Proof.Machine.execReadProbe p c s
  | .readPositions p c => Sys2Proof.Machine.execReadPositions p c s
  | .preset p c => Sys2Proof.Machine.execPreset p c s
  | .compWindow p c => Sys2Proof.Machine.execCompWindow p c s
  | .compData p c => Sys2Proof.Machine.execCompData p c s
  | .compEnable p c => Sys2Proof.Machine.execCompEnable p c s
  | .compDisable p c => Sys2Proof.Machine.execCompDisable p c s
  | .readComp p c => Sys2Proof.Machine.execReadComp p c s
  | .zoneSet p c => Sys2Proof.Machine.execZoneSet p c s
  | .zoneClear p c => Sys2Proof.Machine.execZoneClear p c s
  | .zonePurge p c => Sys2Proof.Machine.execZonePurge p c s
  | .readZones p c => Sys2Proof.Machine.execReadZones p c s
  | .handwheel p c => Sys2Proof.Machine.execHandwheel p c s
  | .clamp p c => Sys2Proof.Machine.execClamp p c s
  | .spindle p c => Sys2Proof.Machine.execSpindle p c s
  | .shift p c => Sys2Proof.Machine.execShift p c s
  | .coolant p c => Sys2Proof.Machine.execCoolant p c s
  | .configWrite p c => Sys2Proof.Machine.execConfigWrite p c s
  | .configRead p c => Sys2Proof.Machine.execConfigRead p c s
  | .configStore p c => Sys2Proof.Machine.execConfigStore p c s
  | .configReload p c => Sys2Proof.Machine.execConfigReload p c s

end Sys2Proof.Machine
end

