-- ==== Sys2Proof/Safety.lean ====
section
/-! DEFINITION. Safety.lean: the words the statements use: steps that answer a next state, complete frames and their replies, quiet
states, and what the part of an event that follows from a change leaves as it is. -/

namespace Sys2Proof.Safety

open Sys2Proof.Machine

/-- A step from a state answers a next state. -/
def StepSafe (s : State) : Prop := ∃ t, step s = .next t

/-- A command answers a next state. -/
def ExecSafe (c : Instr) (s : State) : Prop := ∃ t, exec c s = .next t

/-! ### Frames and replies (R180, R181) -/

/-- A complete frame after its command byte: the length byte and the parameters (R180). -/
def frame (ps : List Byte) : Clocked := { bytes := enc1 ps.length :: ps, bits := [] }

/-- A port that listens for a command byte: select low, in IDLE, with no byte in progress (R180). -/
def Listening (s : State) (p : Port) : Prop :=
  (s.ports.get p).phase = .idle ∧ (s.ports.get p).bits = [] ∧ (s.ports.get p).select = false

/-- A port that takes commands: listening and ACTIVE, with the machine out of START (R180, R184). -/
def Ready (s : State) (p : Port) : Prop := Listening s p ∧ (s.ports.get p).state = .active ∧ s.machine ≠ .start

/-- A reply stands ready at a port: the length byte, then the reply (R181). -/
def Answered (t : State) (p : Port) (reply : List Byte) : Prop :=
  (t.ports.get p).phase = .reply (enc1 reply.length :: reply)

/-- The state with a reply ready at a port and nothing else changed: the cut flag is cleared (R183) and the silence timer of an
engaged port restarted (R187). -/
def onlyReply (s : State) (p : Port) (reply : List Byte) : State :=
  s.updPort p (fun l =>
    { l with
      phase := .reply (enc1 reply.length :: reply), bits := [], cut := false
      silence := if s.engaged p then timerOf (s.config.silence.get p) else l.silence })

/-- The state in which a complete command is decided: its bytes have been taken (R180). -/
def completing (s : State) (p : Port) (code n : Byte) (ps : List Byte) : State :=
  s.updPort p (fun l => { l with phase := if ps = [] then .length code else .parameters code n ps.dropLast, bits := [] })

/-- A command answers a next state that is a state with a reply ready at a port, and of that state a property holds. -/
def Replies (i : Instr) (s : State) (p : Port) (reply : List Byte) (P : State → Prop) : Prop :=
  ∃ t, exec i s = .next (onlyReply t p reply) ∧ P t

/-- The port, the command byte and the bytes of a row that is a frame on a link (section 13.2). -/
def linkRow : Instr → Option (Port × Byte × Clocked)
  | .unknownCommand p code c => some (p, code, c)
  | .status p c => some (p, 1, c)
  | .identify p c => some (p, 2, c)
  | .readEvents p c => some (p, 3, c)
  | .rejoin p c => some (p, 4, c)
  | .machineReset p c => some (p, 16, c)
  | .hold p c => some (p, 17, c)
  | .releaseHold p c => some (p, 18, c)
  | .setOverride p c => some (p, 19, c)
  | .claim p c => some (p, 32, c)
  | .release p c => some (p, 33, c)
  | .handOver p c => some (p, 34, c)
  | .readClaims p c => some (p, 35, c)
  | .queueEntry p c => some (p, 48, c)
  | .flush p c => some (p, 49, c)
  | .continueQueue p c => some (p, 50, c)
  | .readQueue p c => some (p, 51, c)
  | .readProbe p c => some (p, 52, c)
  | .readPositions p c => some (p, 64, c)
  | .preset p c => some (p, 65, c)
  | .compWindow p c => some (p, 66, c)
  | .compData p c => some (p, 67, c)
  | .compEnable p c => some (p, 68, c)
  | .compDisable p c => some (p, 69, c)
  | .readComp p c => some (p, 70, c)
  | .zoneSet p c => some (p, 80, c)
  | .zoneClear p c => some (p, 81, c)
  | .zonePurge p c => some (p, 82, c)
  | .readZones p c => some (p, 83, c)
  | .handwheel p c => some (p, 96, c)
  | .clamp p c => some (p, 112, c)
  | .spindle p c => some (p, 113, c)
  | .shift p c => some (p, 114, c)
  | .coolant p c => some (p, 115, c)
  | .configWrite p c => some (p, 128, c)
  | .configRead p c => some (p, 129, c)
  | .configStore p c => some (p, 130, c)
  | .configReload p c => some (p, 131, c)
  | _ => none

/-- The row of a switch input (section 6.2 of 00_scope.md). -/
def switchRow : SwitchInput → SwitchEdge → Instr
  | .clamp a which, e => .clampSwitchChange a which e
  | .gear g, e => .gearSwitchChange g e
  | .hydPressure, e => .hydPressureSwitchChange e
  | .coolantPressure, e => .coolantPressureSwitchChange e
  | .lowLevel, e => .lowLevelSwitchChange e
  | .home a, e => .homeSwitchChange a e
  | .enabling, e => .enablingSwitchDrop e
  | .panelHold, e => .panelHoldInputChange e
  | .driveReady a, e => .axisDriveReadyDrop a e
  | .spindleReady, e => .spindleDriveReadyDrop e

/-- A row passed on (R8): to its first waiter, or FREE. -/
def passed (w : ClaimRow) : ClaimRow :=
  match w.waiting with
  | [] => { state := .free, waiting := [] }
  | q :: rest => { state := .held q, waiting := rest }

/-- An event record raised for an ACTIVE port among others of the same event: it stands behind the records the port had, or it found the
queue full and the events-lost flag is set (R185). -/
def Noted (s t : State) (p : Port) (e : Event) : Prop :=
  (s.ports.get p).state = .active →
    ∃ more, (t.ports.get p).events = (s.ports.get p).events ++ more ∧ (e ∈ more ∨ (t.ports.get p).eventsLost = true)

/-- CLAIM GRANTED is raised for the first waiter of a row that is passed on (R8). -/
def Granted (s t : State) (r : Resource) : Prop :=
  ∀ q rest, (s.row r).waiting = q :: rest → Noted s t q (.claimGranted r)

/-- Nothing is queued and no move runs. -/
def NothingQueued (s : State) : Prop := ∀ p, (s.queues.get p).entries = [] ∧ s.moves.get p = none

/-- The stage of a shift waits for what ends it (R151, R152). -/
def StageWaits (s : State) : Prop :=
  match s.spindle.state with
  | .shifting _ .halt => s.spindle.quiet = false
  | .shifting _ .hyd => s.hyd.state = .starting ∨ (s.hyd.state = .off ∧ s.inputs.hydPressure = false)
  | .shifting r .cylA => s.readA ≠ some r.wantA
  | .shifting r .cylB => s.readB ≠ some r.wantB
  | _ => True

/-- The first cylinder stage of a shift into a range (R151). -/
def firstStage (s : State) (r : GearRange) : ShiftStage := if s.readA = some r.wantA then .cylB else .cylA

/-- An event record raised for an ACTIVE port with room stands behind the records the port had (R185). -/
def Raised (s t : State) (p : Port) (e : Event) : Prop :=
  (s.ports.get p).state = .active → (s.ports.get p).events.length < 32 →
    (s.ports.get p).events ++ [e] <+: (t.ports.get p).events

/-- The record is raised for the holder of a resource, if it has one. -/
def RaisedHolder (s t : State) (r : Resource) (e : Event) : Prop := ∀ p, s.holder r = some p → Raised s t p e

/-! ### What an event leaves as it is -/

/-- An axis record but for its referenced flag, its fault state, its take-up and its search phase. -/
structure AxisKept (u v : AxisUnit) : Prop where
  cmd : v.cmd = u.cmd
  out : v.out = u.out
  meas : v.meas = u.meas
  backlog : v.backlog = u.backlog
  compEnabled : v.compEnabled = u.compEnabled
  window : v.window = u.window
  lastIllegal : v.lastIllegal = u.lastIllegal
  stepForward : v.stepForward = u.stepForward
  stepPulses : v.stepPulses = u.stepPulses

/-- A port but for its silence timer, its events-lost flag and the records raised. -/
structure PortKept (l m : LinkPort) : Prop where
  phase : m.phase = l.phase
  bits : m.bits = l.bits
  select : m.select = l.select
  breakTimer : m.breakTimer = l.breakTimer
  cut : m.cut = l.cut
  state : m.state = l.state
  events : l.events <+: m.events

/-- The tachometer and the standstill watch. -/
structure TachKept (u v : Spindle) : Prop where
  tach : v.tach = u.tach
  measured : v.measured = u.measured
  standstill : v.standstill = u.standstill
  standstillTimer : v.standstillTimer = u.standstillTimer

/-- What the blocks leave as it is while they act on a change within the same event: the inputs with their debounce timers, the machine state, the holds and
overrides, the configuration, the store and its memory, the zone table, the probe records, the axes' positions, the tachometer, the
framing of the ports and every claim row that is not ORPHANED. -/
structure Follows (s t : State) : Prop where
  pending : t.pending = s.pending
  now : t.now = s.now
  machine : t.machine = s.machine
  holds : t.holds = s.holds
  overrides : t.overrides = s.overrides
  inputs : t.inputs = s.inputs
  conditioner : t.conditioner = s.conditioner
  config : t.config = s.config
  store : t.store = s.store
  serial : t.serial = s.serial
  probes : t.probes = s.probes
  zones : t.zones = s.zones
  axes : ∀ a, AxisKept (s.axes.get a) (t.axes.get a)
  tach : TachKept s.spindle t.spindle
  ports : ∀ p, PortKept (s.ports.get p) (t.ports.get p)
  rows : ∀ r, s.orphanedFrom r = none → t.row r = s.row r

/-- Nothing is queued, no move runs and no resource is ORPHANED: only the units can act. -/
def Quiet (s : State) : Prop :=
  (∀ p, (s.queues.get p).entries = [] ∧ s.moves.get p = none) ∧ ∀ r, s.orphanedFrom r = none

/-- What the units leave as it is while they act on a change in a quiet state: everything that an event leaves, the claim table, the
queues, the planned positions, the moves, the latch, the axis records, the coolant record and every pending distance. -/
structure UnitsFollow (s t : State) : Prop where
  follows : Follows s t
  choices : t.choices = s.choices
  claims : t.claims = s.claims
  queues : t.queues = s.queues
  planned : t.planned = s.planned
  moves : t.moves = s.moves
  latch : t.latch = s.latch
  axes : t.axes = s.axes
  coolant : t.coolant = s.coolant
  hands : ∀ a, (t.hands.get a).pending = (s.hands.get a).pending

/-! ### The laws the blocks keep -/

/-- A release valve is on in RELEASING and RELEASED and in no other state, and only while the hydraulic unit is UP (R126). -/
structure ValveLaw (s : State) : Prop where
  state : ∀ a, (s.clamps.get a).valve = true ↔ (s.clamps.get a).state = .releasing ∨ (s.clamps.get a).state = .released
  up : ∀ a, (s.clamps.get a).valve = true → s.hyd.state = .up

/-- A hand pending distance other than 0 stands only in RUN, with the enabling switch active, the hold-source set empty and the axis
held (R114). -/
def PendingLaw (s : State) : Prop :=
  ∀ a, (s.hands.get a).pending ≠ 0 →
    s.machine = .run ∧ s.inputs.enabling = true ∧ s.holds.isEmpty = true ∧ s.holder (.axis a) ≠ none

/-- Queues hold at most 16 entries (R25) and event queues at most 32 records (R185); fewer than eight bits stand in progress (R180),
none while select is high, and the break time runs only then (R182). -/
def BoundsLaw (s : State) : Prop :=
  ∀ p, (s.queues.get p).entries.length ≤ 16 ∧ (s.ports.get p).events.length ≤ 32 ∧ (s.ports.get p).bits.length < 8 ∧
    ((s.ports.get p).select = true → (s.ports.get p).bits = []) ∧
    ((s.ports.get p).breakTimer ≠ none → (s.ports.get p).select = true)

/-- The law of one claim row (R1): the waiters are distinct ACTIVE ports, none of them the holder, at most two of them, and a FREE row
has none. -/
structure RowLaw (s : State) (w : ClaimRow) : Prop where
  distinct : w.waiting.Nodup
  most : w.waiting.length ≤ 2
  active : ∀ p ∈ w.waiting, (s.ports.get p).state = .active
  notHolder : ∀ p ∈ w.waiting, w.state ≠ .held p
  free : w.state = .free → w.waiting = []

/-- The law of the claim table (R1). -/
def ClaimLaw (s : State) : Prop := ∀ r, RowLaw s (s.row r)

/-- A RELOAD in progress that has not seen RUN finds the machine out of RUN (R199). -/
def ReloadLaw (s : State) : Prop := ∀ p, s.store.op = .reloading p false → s.machine ≠ .run

/-- Output 0, commanded code 0, no direction, relays off. -/
def AtRest (sp : Spindle) : Prop := sp.outCode = 0 ∧ sp.cmdCode = 0 ∧ sp.cmdDir = none ∧ sp.relay = none

/-- What the spindle record keeps in each state (R141, R145, R149 to R152). -/
def SpindleLaw (s : State) : Prop :=
  let sp := s.spindle
  match sp.state with
  | .stopped => AtRest sp ∧ sp.valves = .allOff ∧ (s.machine ≠ .start → sp.engaged = s.rangeReading)
  | .running => s.machine = .run ∧ sp.engaged = s.rangeReading ∧ sp.engaged ≠ none ∧ sp.valves = .allOff
  | .stopping =>
    s.machine = .run ∧ sp.engaged = s.rangeReading ∧ sp.engaged ≠ none ∧ sp.valves = .allOff ∧ sp.cmdCode = 0 ∧ sp.cmdDir = none
  | .shifting _ .halt =>
    s.machine = .run ∧ sp.engaged = s.rangeReading ∧ (sp.engaged = none → sp.outCode = 0) ∧ sp.valves = .allOff ∧
      sp.cmdCode = 0 ∧ sp.cmdDir = none
  | .shifting _ .hyd => s.machine = .run ∧ AtRest sp ∧ sp.valves = .allOff
  | .shifting r stage =>
    s.machine = .run ∧ sp.outCode ≤ s.config.spindle.wiggleCode.toNat ∧ sp.cmdCode ≤ s.config.spindle.wiggleCode.toNat ∧
      sp.valves = stageValves stage r
  | .fault _ => AtRest sp ∧ sp.valves = .allOff

/-- The spindle's invariant: its law, with what a RELOAD in progress keeps. -/
def SpindleInv (s : State) : Prop := SpindleLaw s ∧ ReloadLaw s

/-- What the coolant record keeps (R163, R164): a pump runs exactly in the states that run it, flood only in RUN with the level not
low, and the through pump only at TSC_MIN_SPEED or more besides. -/
structure CoolantLaw (s : State) : Prop where
  flood : s.coolant.floodPump = true ↔ s.coolant.flood = .on
  through : s.coolant.throughPump = true ↔ s.coolant.through = .priming ∨ s.coolant.through = .on
  floodMode : s.coolant.flood = .on → s.coolant.mode.flooding = true
  throughMode : s.coolant.through = .priming ∨ s.coolant.through = .on ∨ s.coolant.through = .waitSpindle →
    s.coolant.mode.throughSpindle = true
  mode : s.coolant.mode ≠ .off → s.machine = .run
  level : s.coolant.floodPump = true ∨ s.coolant.throughPump = true ∨ s.coolant.through = .waitSpindle → s.inputs.lowLevel = false
  speed : s.coolant.throughPump = true → s.config.tscMinSpeed.toNat ≤ s.spindle.measured

/-- The coolant unit's invariant: its law, with what a RELOAD in progress keeps. -/
def CoolantInv (s : State) : Prop := CoolantLaw s ∧ ReloadLaw s

/-- A working configuration within the bounds and cross-conditions of R194, with valid pinned zones and tables (R80, R96, R101). -/
structure ConfigSound (c : WorkingConfig) : Prop where
  bounds : ∀ q ∈ Param.stored, c.inBounds q (c.get q) = true
  cross : c.crossOk = true
  pinned : c.pinned.length ≤ 8 ∧ ∀ z ∈ c.pinned, Zone.valid z = true
  tables : ∀ a, (c.comp.get a).length = 64 ∧ ∀ v ∈ c.comp.get a, -1000 ≤ v ∧ v ≤ 1000

end Sys2Proof.Safety
end

