-- ==== Sys2Proof/Certificates/Slice0/Obligations.lean ====
section
/-! DEFINITION. Certificates/Slice0/Obligations.lean: the statements for the provers. -/

open Sys2Proof Sys2Proof.Machine Sys2Proof.Safety

/-- O1. A step takes the command at the front of the queue, and idles on an empty one. (section 6.2 of 00_scope.md) Where the manual
leaves a point open it rests on the model's choice: notes/assumptions, entry 1. -/
def Obligations.StepRunsTheFrontCommand : Prop :=
  (∀ (c : Instr) (rest : List Instr) (s : State), step { s with pending := c :: rest } = exec c { s with pending := rest }) ∧
  (∀ s : State, s.pending = [] → step s = .next s)

/-- O2. No command faults or is refused. (section 6.2 of 00_scope.md) -/
def Obligations.EveryCommandRuns : Prop :=
  ∀ (c : Instr) (s : State), ∃ t, exec c s = .next t ∧ t.pending = s.pending

/-- O3. The values after the reset input. (section 1.2 of 01_resources_and_claims.md, section 4.1 of
04_axis_positions_compensation_and_step_output.md, section 8.4 of 08_spindle_and_gearbox.md, section 12.1 of
12_stored_configuration_and_start_up.md) Where the manual leaves a point open it rests on the model's choice: notes/assumptions,
entries 9, 10 and 30. -/
def Obligations.ResetStateIsTheManuals : Prop :=
  State.reset.machine = .start ∧
  (∀ r, State.reset.row r = { state := .free, waiting := [] }) ∧
  (∀ p, (State.reset.queues.get p).state = .empty ∧ State.reset.moves.get p = none ∧
    State.reset.probes.get p = { valid := false, tag := 0, positions := .const 0 }) ∧
  State.reset.latch = { owner := none, waiting := [] } ∧
  (∀ a, (State.reset.axes.get a).cmd = 0 ∧ (State.reset.axes.get a).out = 0 ∧ (State.reset.axes.get a).meas = 0 ∧
    (State.reset.axes.get a).backlog = 0 ∧ (State.reset.axes.get a).referenced = false ∧ (State.reset.axes.get a).fault = none ∧
    (State.reset.axes.get a).compEnabled = false ∧ (State.reset.axes.get a).takeUp = none ∧
    (State.reset.axes.get a).search = .none ∧ (State.reset.axes.get a).lastIllegal = none ∧
    (State.reset.axes.get a).window = { first := 0, last := 63, pointer := some 0, method := .stop } ∧
    State.reset.hands.get a = { pending := 0, handReleased := false, idle := none } ∧
    State.reset.clamps.get a = { state := .engaging, valve := false, auto := false, timer := none }) ∧
  State.reset.hyd = { state := .off, pump := false, startTimer := none, dipTimer := none, runonTimer := none } ∧
  State.reset.spindle.state = .stopped ∧ State.reset.spindle.speed = 0 ∧ State.reset.spindle.dir = .cw ∧
  State.reset.spindle.effective = 0 ∧ State.reset.spindle.engaged = none ∧ State.reset.spindle.cmdCode = 0 ∧
  State.reset.spindle.cmdDir = none ∧ State.reset.spindle.outCode = 0 ∧ State.reset.spindle.relay = none ∧
  State.reset.spindle.valves = .allOff ∧ State.reset.spindle.atSpeed = false ∧ State.reset.spindle.tach = .period none ∧
  State.reset.spindle.measured = 0 ∧ State.reset.spindle.standstill = false ∧ State.reset.spindle.standstillTimer = some 200 ∧
  State.reset.coolant =
    { mode := .off, flood := .off, through := .off, floodPump := false, throughPump := false, primeTimer := none,
      lossTimer := none } ∧
  (∀ p, (State.reset.ports.get p).phase = .idle ∧ (State.reset.ports.get p).state = .active ∧
    (State.reset.ports.get p).events = [] ∧ (State.reset.ports.get p).eventsLost = false ∧
    (State.reset.ports.get p).cut = false ∧ (State.reset.ports.get p).silence = none ∧ (State.reset.ports.get p).bits = []) ∧
  State.reset.holds.isEmpty = true ∧ State.reset.overrides = { feed := 100, rapid := 100, spindle := 100 } ∧
  State.reset.store.defaults = false ∧ State.reset.store.op = .idle

/-- O4. RESET_INPUT by the pulse's length, and what START_UP_LOAD_END puts in force and reads from the inputs. (section 12.1 of
12_stored_configuration_and_start_up.md, section 10.1 of 10_machine_state_emergency_stop_and_feed_hold.md, section 7.3 of
07_hydraulic_unit_and_axis_clamps.md, section 8.2 of 08_spindle_and_gearbox.md, section 8.6 of 08_spindle_and_gearbox.md, section
9.4 of 09_coolant.md, section 4.2 of 04_axis_positions_compensation_and_step_output.md) Where the manual leaves a point open it
rests on the model's choice: notes/assumptions, entries 8, 9, 10 and 11. -/
def Obligations.ResetInputAndStartUpLoad : Prop :=
  (∀ (width : Nat) (raw : Inputs) (landed : List Byte) (s : State),
      let serial :=
        match s.store.op with
        | .storing _ _ => Memory.writeBytes s.serial 0 landed
        | .reloading _ _ => s.serial
        | .idle => s.serial
      let fresh := fun n : Nat =>
        ({ State.reset with
          pending := s.pending, now := s.now, choices := n, inputs := raw, serial := serial
          ports := mapPorts (fun l => { LinkPort.reset with select := l.select }) s.ports } : State)
      (width < 5000 → exec (.resetInput width raw landed) s = .next s) ∧
      (20000 < width → exec (.resetInput width raw landed) s = .next (fresh s.choices)) ∧
      (5000 ≤ width ∧ width ≤ 20000 →
        exec (.resetInput width raw landed) s = .next { s with choices := s.choices + 1 } ∨
          exec (.resetInput width raw landed) s = .next (fresh (s.choices + 1)))) ∧
  (∀ (acked : Bool) (s : State),
      (s.machine = .start →
        ∃ t, exec (.startUpLoadEnd acked) s = .next t ∧
          t.machine = (if s.inputs.chainClosed then .resetWait else .estop) ∧
          t.config = (s.readImage acked).getD WorkingConfig.factory ∧
          t.store.defaults = (s.store.defaults || (s.readImage acked).isNone) ∧
          t.zones = placePinned t.config.pinned ∧
          t.holds = { s.holds with panel := s.holds.panel || s.inputs.panelHold } ∧
          (∀ p, Raised s t p (.machineState t.machine)) ∧
          (∀ a, s.inputs.driveReady.get a = false → (t.axes.get a).fault = some ((s.axes.get a).fault.getD .drive)) ∧
          (∀ a, (s.clamps.get a).state = .engaging →
            t.clamps.get a =
              (if s.agreeEngaged a then { s.clamps.get a with state := .engaged, auto := false, timer := none }
              else { s.clamps.get a with timer := some (t.config.axes.get a).clampEngageLimit.toNat })) ∧
          (s.spindle.state = .stopped →
            t.spindle.engaged = s.rangeReading ∧
              t.spindle.state = (if s.inputs.spindleReady then .stopped else .fault .drive) ∧
              (s.inputs.spindleReady = false → t.spindle.speed = 0 ∧ AtRest t.spindle ∧ t.spindle.valves = .allOff)) ∧
          (s.orphanedFrom .coolant = none →
            (s.inputs.lowLevel = false → t.coolant = s.coolant) ∧
            (s.inputs.lowLevel = true →
              t.coolant.mode = s.coolant.mode ∧ t.coolant.primeTimer = none ∧ t.coolant.lossTimer = none ∧
                (s.coolant.flood.isFault = false → t.coolant.flood = .fault .lowLevel ∧ t.coolant.floodPump = false) ∧
                (s.coolant.through.isFault = false → t.coolant.through = .fault .lowLevel ∧ t.coolant.throughPump = false) ∧
                (s.coolant.flood.isFault = true → t.coolant.flood = s.coolant.flood) ∧
                (s.coolant.through.isFault = true → t.coolant.through = s.coolant.through))) ∧
          t.inputs = s.inputs ∧ t.serial = s.serial ∧ t.overrides = s.overrides) ∧
      (s.machine ≠ .start → exec (.startUpLoadEnd acked) s = .next s))

/-- O5. CHAIN_OPENS: what entering ESTOP does and what it leaves. (section 10.1 of 10_machine_state_emergency_stop_and_feed_hold.md,
section 7.7 of 07_hydraulic_unit_and_axis_clamps.md, section 2.9 of 02_program_queues.md, section 8.6 of
08_spindle_and_gearbox.md, section 9.6 of 09_coolant.md) Where the manual leaves a point open it rests on the model's choice:
notes/assumptions, entries 14 and 29. -/
def Obligations.ChainOpeningStopsTheMachine : Prop :=
  ∀ s : State,
    (s.machine = .run ∨ s.machine = .resetWait → ValveLaw s → SpindleLaw s →
      ∃ t, exec .chainOpens s = .next t ∧ t.machine = .estop ∧ t.inputs = { s.inputs with chainClosed := false } ∧
        (∀ p, Raised s t p (.machineState .estop)) ∧
        (∀ p, (t.queues.get p).entries = [] ∧ t.moves.get p = none) ∧ t.latch = { owner := none, waiting := [] } ∧
        (∀ a, (t.hands.get a).pending = 0 ∧ (t.axes.get a).takeUp = none ∧ (t.axes.get a).search = .none ∧
          (t.clamps.get a).valve = false ∧ AxisKept (s.axes.get a) (t.axes.get a)) ∧
        (∀ a, (s.clamps.get a).state.demands = true →
          t.clamps.get a =
            (if s.agreeEngaged a then { state := .engaged, valve := false, auto := false, timer := none }
            else
              { state := .engaging, valve := false, auto := false
                timer := some (s.config.axes.get a).clampEngageLimit.toNat })) ∧
        (∀ a, ((s.clamps.get a).state = .released ∧ s.standing a = false →
            (t.axes.get a).fault = some ((s.axes.get a).fault.getD .clamp) ∧
              ((s.axes.get a).fault = none → ∀ p, s.holder (.axis a) = some p → Noted s t p (.axisFault a .clamp))) ∧
          ((s.clamps.get a).state ≠ .released ∨ s.standing a = true → (t.axes.get a).fault = (s.axes.get a).fault)) ∧
        (∀ p e es, (s.queues.get p).stop ≠ .portLost → (s.queues.get p).entries = e :: es →
          ((s.queues.get p).moving = true →
            Noted s t p (.entryFailed e.tag .estop) ∧ (es ≠ [] → Noted s t p (.queueFlushed es.length))) ∧
          ((s.queues.get p).moving = false → Noted s t p (.queueFlushed (es.length + 1)))) ∧
        t.hyd.state = .off ∧ t.hyd.pump = false ∧
        AtRest t.spindle ∧ t.spindle.valves = .allOff ∧ (t.spindle.state = .stopped ∨ t.spindle.state.isFault = true) ∧
        t.coolant.mode = .off ∧ t.coolant.floodPump = false ∧ t.coolant.throughPump = false ∧
        t.holds = s.holds ∧ t.overrides = s.overrides ∧ t.zones = s.zones ∧ t.config = s.config ∧ t.probes = s.probes ∧
        t.serial = s.serial ∧ (∀ r, s.orphanedFrom r = none → t.row r = s.row r)) ∧
    (s.machine = .start ∨ s.machine = .estop →
      exec .chainOpens s = .next { s with inputs := { s.inputs with chainClosed := false } })

/-- O6. CHAIN_CLOSES: ESTOP becomes RESET_WAIT and the positions settle. (section 10.1 of
10_machine_state_emergency_stop_and_feed_hold.md, section 4.4 of 04_axis_positions_compensation_and_step_output.md) Where the
manual leaves a point open it rests on the model's choice: notes/assumptions, entry 27. -/
def Obligations.ChainClosingEndsFollowUp : Prop :=
  ∀ s : State,
    (s.machine = .estop →
      ∃ t, exec .chainCloses s = .next t ∧ t.machine = .resetWait ∧ t.inputs = { s.inputs with chainClosed := true } ∧
        (∀ p, Raised s t p (.machineState .resetWait)) ∧
        t.holds = s.holds ∧ t.overrides = s.overrides ∧ t.config = s.config ∧ t.zones = s.zones ∧
        ∀ a, (t.axes.get a).meas = (s.axes.get a).meas ∧
          ((s.axes.get a).fault = none →
            (t.axes.get a).out = (s.axes.get a).meas ∧ (t.axes.get a).backlog = 0 ∧
              (t.axes.get a).cmd = (s.axes.get a).meas -
                (if (s.axes.get a).compEnabled then s.comp a (s.axes.get a).cmd else 0)) ∧
          ((s.axes.get a).fault ≠ none → AxisKept (s.axes.get a) (t.axes.get a))) ∧
    (s.machine ≠ .estop → exec .chainCloses s = .next { s with inputs := { s.inputs with chainClosed := true } })

/-- O7. MOTION_PERIOD in follow-up: O becomes M, T becomes M less k, no pulse goes out. (section 4.4 of
04_axis_positions_compensation_and_step_output.md) Where the manual leaves a point open it rests on the model's choice:
notes/assumptions, entries 3 and 15. -/
def Obligations.FollowUpFollowsTheEncoder : Prop :=
  ∀ s : State, ∃ t, exec .motionPeriod s = .next t ∧
    ∀ a, s.followUp a = true → s.standing a = true →
      (t.axes.get a).out = (s.axes.get a).meas ∧ (t.axes.get a).meas = (s.axes.get a).meas ∧
        (t.axes.get a).cmd = (s.axes.get a).meas - (s.axes.get a).k ∧ (t.axes.get a).backlog = 0 ∧
        (t.axes.get a).k = (s.axes.get a).k ∧ (t.axes.get a).stepPulses = 0

/-- O8. MOTION_PERIOD: pulses only in RUN with the clamp RELEASED, at most 1,000 a period. (section 4.3 of
04_axis_positions_compensation_and_step_output.md) Where the manual leaves a point open it rests on the model's choice:
notes/assumptions, entries 3 and 28. -/
def Obligations.StepPulsesOnlyInRunWithTheClampReleased : Prop :=
  ∀ s : State, ∃ t, exec .motionPeriod s = .next t ∧
    ∀ a, (t.axes.get a).stepPulses ≤ 1000 ∧
      ((t.axes.get a).stepPulses ≠ 0 → s.machine = .run ∧ (s.clamps.get a).state = .released)

/-- O9. MOTION_PERIOD leaves T of an axis that nothing moves and forms O by the table. (section 4.3 of
04_axis_positions_compensation_and_step_output.md) Where the manual leaves a point open it rests on the model's choice:
notes/assumptions, entries 3 and 15. -/
def Obligations.RestingAxisHoldsItsPosition : Prop :=
  ∀ s : State, ∃ t, exec .motionPeriod s = .next t ∧
    ∀ a, s.followUp a = false → s.standing a = true → s.followingExceeded a = false →
      (t.axes.get a).cmd = (s.axes.get a).cmd ∧ (t.axes.get a).meas = (s.axes.get a).meas ∧
        (t.axes.get a).out =
          (s.axes.get a).cmd + (if (s.axes.get a).compEnabled then s.comp a (s.axes.get a).cmd else 0)

/-- O10. MOTION_PERIOD advances a move of any kind, writes its axes and reports its landing or its rest short. (section 3.3 of
03_path_generation.md, section 3.4 of 03_path_generation.md, section 3.7 of 03_path_generation.md, section 2.8 of
02_program_queues.md, section 3.8 of 03_path_generation.md, section 4.7 of 04_axis_positions_compensation_and_step_output.md,
section 2.6 of 02_program_queues.md, section 3.9 of 03_path_generation.md) Where the manual leaves a point open it rests on the
model's choice: notes/assumptions, entries 3, 15, 22, 34 and 39. -/
def Obligations.MovePeriodWritesThePath : Prop :=
  ∀ (s : State) (p : Port) (m : Move), s.machine = .run → s.moves.get p = some m → (s.queues.get p).moving = true →
    (∀ q, q ≠ p → s.moves.get q = none) → (∀ a, (s.hands.get a).pending = 0) → (∀ a, (s.axes.get a).fault = none) →
    (∀ a, s.followingExceeded a = false) → (m.axes.map (·.axis)).Nodup →
    let n := (m.advance (s.ceiling m)).1
    let how := (m.advance (s.ceiling m)).2
    (∀ j ∈ m.axes, beyondBound (s.axes.get j.axis).cmd (n.position j) = false) →
    ∃ t, exec .motionPeriod s = .next t ∧
      (∀ j ∈ m.axes, (t.axes.get j.axis).cmd = n.position j) ∧
      (∀ a, (∀ j ∈ m.axes, j.axis ≠ a) → (t.axes.get a).cmd = (s.axes.get a).cmd) ∧
      (how = .goes → t.moves.get p = some n) ∧
      ∀ e rest, how ≠ .goes → (s.queues.get p).entries = e :: rest →
        let failed := fun c : EntryError =>
          t.queues.get p = { entries := e :: rest, head := .failed c, stop := .running, timer := none } ∧ t.moves.get p = none ∧
            Raised s t p (.entryFailed e.tag c)
        let done := fun triggered : Bool =>
          (t.queues.get p).entries <:+ rest ∧ Raised s t p (.entryDone e.tag triggered)
        let gone := (t.queues.get p).entries = [] ∧ t.moves.get p = none
        ((s.queues.get p).stop = .running → how = .landed → m.kind = .feed ∨ m.kind = .rapid → done false) ∧
        ((s.queues.get p).stop = .running → how = .landed → m.kind = .probe → m.seen = true → done true) ∧
        ((s.queues.get p).stop = .running → how = .landed → m.kind = .probe → m.seen = false → failed .noTrigger) ∧
        ((s.queues.get p).stop = .running → how = .short → m.kind = .probe → done true) ∧
        ((s.queues.get p).stop = .running → how = .short → m.kind = .feed ∨ m.kind = .rapid → failed .flushed) ∧
        ((s.queues.get p).stop = .running → m.kind = .reference → m.seen = true → done false) ∧
        ((s.queues.get p).stop = .running → how = .landed → m.kind = .reference → m.seen = false → failed .refFail) ∧
        ((s.queues.get p).stop = .flushed → how = .short → gone ∧ Raised s t p (.entryFailed e.tag .flushed)) ∧
        ((s.queues.get p).stop = .flushed → how = .landed →
          gone ∧
            Raised s t p
              (.entryDone e.tag (decide (m.kind = .probe) && m.seen))) ∧
        ((s.queues.get p).stop = .portLost → gone) ∧
        ∀ a, m.kind = .reference → e.kind = .reference a → m.axes.map (·.axis) = [a] →
          m.seen = true ∨ how = .landed ∨ (s.queues.get p).stop ≠ .running →
          (∀ d ∈ rest, d.kind.isReferenceOf a = false) →
          (∀ q, q ≠ p → ∀ d ∈ (s.queues.get q).entries, d.kind.isReferenceOf a = false) →
          (t.axes.get a).search = .none ∧
            (t.axes.get a).referenced =
              (if m.seen = true ∧ ((s.queues.get p).stop = .running ∨ (s.queues.get p).stop = .flushed ∧ how = .landed) then true
              else (s.axes.get a).referenced) ∧
            (rest = [] → (s.queues.get p).stop ≠ .portLost → s.hasClaim p (.axis a) = true →
              (t.planned.get p).get a = some (t.axes.get a).cmd)

/-- O11. The path advance changes by at most a, and the path stays within the move. (section 3.3 of 03_path_generation.md, section 3.4
of 03_path_generation.md) -/
def Obligations.PathAdvanceStaysWithinItsBounds : Prop :=
  (∀ (m : Move) (cap : Nat), (m.advance cap).2 = .goes →
      (m.advance cap).1.v ≤ m.v + m.accel ∧ m.v ≤ (m.advance cap).1.v + m.accel) ∧
  (∀ (m : Move) (cap : Nat), m.s ≤ 256 * m.len →
      ((m.advance cap).1.s ≤ 256 * m.len ∧ m.s ≤ (m.advance cap).1.s) ∧
      ((m.advance cap).2 = .landed → (m.advance cap).1.s = 256 * m.len ∧ (m.advance cap).1.v = 0) ∧
      ((m.advance cap).2 = .short → (m.advance cap).1.s = m.s) ∧
      ∀ j : MoveAxis,
        min j.start (j.start + j.delta) ≤ m.position j ∧ m.position j ≤ max j.start (j.start + j.delta) ∧
          (m.s = 256 * m.len → 0 < m.len → m.position j = j.start + j.delta))

/-- O12. ENCODER_COUNT: one step counts, a double change is an illegal transition. (section 4.2 of
04_axis_positions_compensation_and_step_output.md) Where the manual leaves a point open it rests on the model's choice:
notes/assumptions, entry 3. -/
def Obligations.EncoderCountsM : Prop :=
  ∀ (a : Axis) (chA chB : Bool) (s : State),
    let was := quadrature (s.inputs.encoderA.get a) (s.inputs.encoderB.get a)
    let now := quadrature chA chB
    let u := s.axes.get a
    ∃ t, exec (.encoderCount a chA chB) s = .next t ∧
      (∀ c, c ≠ a → AxisKept (s.axes.get c) (t.axes.get c)) ∧
      (t.axes.get a).cmd = u.cmd ∧ (t.axes.get a).out = u.out ∧
      (now = (was + 1) % 4 → beyondBound u.meas (u.meas + 1) = false → (t.axes.get a).meas = u.meas + 1) ∧
      (was = (now + 1) % 4 → beyondBound u.meas (u.meas - 1) = false → (t.axes.get a).meas = u.meas - 1) ∧
      (now = (was + 2) % 4 →
        (t.axes.get a).meas = u.meas ∧ (t.axes.get a).referenced = false ∧ (t.axes.get a).lastIllegal = some s.now ∧
          (t.axes.get a).fault = some (u.fault.getD .encoder)) ∧
      (now = was → AxisKept u (t.axes.get a)) ∧
      t.inputs = { s.inputs with encoderA := s.inputs.encoderA.set a chA, encoderB := s.inputs.encoderB.set a chB } ∧
      t.machine = s.machine ∧ t.holds = s.holds ∧ t.config = s.config ∧ t.zones = s.zones ∧ t.probes = s.probes

/-- O13. REFERENCE starts its search, the home switch passes SEARCH to INDEX, INDEX_EDGE makes the capture; every switch input is
debounced. (section 4.7 of 04_axis_positions_compensation_and_step_output.md, section 12.2 of
12_stored_configuration_and_start_up.md, section 3.8 of 03_path_generation.md, section 3.1 of 03_path_generation.md) Where the
manual leaves a point open it rests on the model's choice: notes/assumptions, entry 5. -/
def Obligations.ReferenceSearchInputs : Prop :=
  ((∀ (a : Axis) (s : State), ∃ t, exec (.indexEdge a) s = .next t ∧
        let u := s.axes.get a
        let shift := (s.config.axes.get a).refPos - u.meas
        (u.search = .index →
          (t.axes.get a).cmd = u.cmd + shift ∧ (t.axes.get a).out = u.out + shift ∧
            (t.axes.get a).meas = (s.config.axes.get a).refPos ∧ (t.axes.get a).backlog = u.backlog ∧
            (∀ c, c ≠ a → AxisKept (s.axes.get c) (t.axes.get c)) ∧
            ((∀ c, (s.axes.get c).fault = none) →
              (∀ p, (s.queues.get p).entries = [] ∨ (s.queues.get p).moving = true) →
              (t.axes.get a).search = .captured ∧
                ∀ p m, s.moves.get p = some m →
                  t.moves.get p = some
                    (if m.kind = .reference ∧ ∃ j ∈ m.axes, j.axis = a then
                      { m with
                        axes := m.axes.map (fun j => { j with start := j.start + shift }), seen := true, stop := true }
                    else m))) ∧
        (u.search ≠ .index →
          Follows s t ∧
            ((∀ c, (s.axes.get c).fault = none) →
              (∀ p, (s.queues.get p).entries = [] ∨ (s.queues.get p).moving = true) →
              (t.axes.get a).search = u.search ∧ t.moves = s.moves)) ∧
        t.inputs = s.inputs ∧ t.machine = s.machine ∧ t.holds = s.holds ∧ t.config = s.config ∧ t.zones = s.zones ∧ t.probes = s.probes) ∧
    (∀ (a : Axis) (active : Bool) (s : State),
        (s.conditioner.get (.home a) = none → exec (.homeSwitchChange a .stood) s = .next s) ∧
        (s.conditioner.get (.home a) ≠ none → s.inputs.home.get a ≠ active →
          ∃ t, exec (.homeSwitchChange a .stood) s = .next t ∧
            Follows
              { s with
                inputs := { s.inputs with home := s.inputs.home.set a active }
                conditioner := s.conditioner.set (.home a) none } t ∧
            (active = true → (s.axes.get a).search = .search → (∀ c, (s.axes.get c).fault = none) →
              (∀ p, (s.queues.get p).entries = [] ∨ (s.queues.get p).moving = true) → (t.axes.get a).search = .index))) ∧
      (∀ (p : Port) (a : Axis) (e : Entry) (bs : List Byte) (s : State), Ready s p → 4 ≤ bs.length → bs.length ≤ 38 →
          decEntry bs = some e → e.kind = .reference a → s.machine = .run → (s.queues.get p).entries = [] → s.moves.get p = none →
          s.hasClaim p (.axis a) = true → (∀ c, (s.axes.get c).fault = none) → (s.axes.get a).takeUp = none →
          (s.axes.get a).compEnabled = false → (s.hands.get a).pending = 0 → (s.clamps.get a).state = .released →
          s.holds.isEmpty = true → (∀ q, q ≠ p → (s.queues.get q).entries = [] ∨ (s.queues.get q).moving = true) →
          let c := s.config.axes.get a
          0 < c.refSearchMax →
          Replies (.queueEntry p (frame bs)) s p [0, 1] (fun t =>
            Follows s t ∧ (t.axes.get a).referenced = false ∧
              (t.axes.get a).search = (if s.inputs.home.get a then .index else .search) ∧
              t.queues.get p = { entries := [e], head := .executing, stop := .running, timer := none } ∧
              t.moves.get p = some
                { tag := e.tag, kind := .reference
                  axes :=
                    [{ axis := a, delta := if c.refDir = 0 then c.refSearchMax else -c.refSearchMax
                       start := (s.axes.get a).cmd, rate := c.rateMax.toNat, accel := c.accel.toNat }]
                  len := c.refSearchMax.toNat, accel := max 1 (256 * c.accel.toNat / 1000000), vAxes := 256 * c.rateMax.toNat
                  feedRate := c.refFeed.toNat, s := 0, v := 0, braking := false, stop := false, seen := false, box := none }))) ∧
  ((∀ (i : SwitchInput) (active : Bool) (s : State),
        let ms : Int :=
          match i with
          | .clamp _ _ => s.config.debounce.clamp
          | .gear _ => s.config.debounce.gear
          | .hydPressure => s.config.debounce.hyd
          | .coolantPressure => 10 * s.config.debounce.coolant
          | .lowLevel => 10 * s.config.debounce.coolant
          | .home _ => s.config.debounce.home
          | .enabling => s.config.debounce.panel
          | .panelHold => s.config.debounce.panel
          | .driveReady _ => s.config.debounce.drive
          | .spindleReady => s.config.debounce.drive
        let set := fun timer : Timer => ({ s with conditioner := s.conditioner.set i timer } : State)
        (active = Inputs.level s.inputs i → exec (switchRow i (.raw active)) s = .next (set none)) ∧
        (active ≠ Inputs.level s.inputs i → s.conditioner.get i = none →
          exec (switchRow i (.raw active)) s = .next (set (some ms.toNat))) ∧
        (active ≠ Inputs.level s.inputs i → s.conditioner.get i ≠ none → exec (switchRow i (.raw active)) s = .next s) ∧
        (s.conditioner.get i = none → exec (switchRow i .stood) s = .next s) ∧
        (s.conditioner.get i ≠ none →
          ∃ t, exec (switchRow i .stood) s = .next t ∧ Inputs.level t.inputs i = s.rawLevel i ∧ t.rawLevel i = s.rawLevel i ∧
            t.conditioner = s.conditioner.set i none ∧ ∀ j, j ≠ i → Inputs.level t.inputs j = Inputs.level s.inputs j)) ∧
    (∀ (raw : Inputs) (landed : List Byte) (s : State),
        ∃ t, exec (.resetInput 20001 raw landed) s = .next t ∧ ∀ i, t.conditioner.get i = none ∧ t.rawLevel i = Inputs.level raw i))

/-- O14. PROBE_EDGE: the owner's record takes tag and positions; the latch goes to one head at a time, in the waiting order. (section
3.9 of 03_path_generation.md, section 2.10 of 02_program_queues.md, section 2.5 of 02_program_queues.md) Where the manual leaves a
point open it rests on the model's choice: notes/assumptions, entries 5 and 12. -/
def Obligations.ProbeEdgeWritesTheRecord : Prop :=
  (∀ (active : Bool) (s : State),
      (s.inputs.probe = active → exec (.probeEdge active) s = .next s) ∧
      (s.inputs.probe ≠ active →
        ∃ t, exec (.probeEdge active) s = .next t ∧
          Follows { s with inputs := { s.inputs with probe := active }, probes := t.probes } t ∧
          (active = false ∨ s.latch.owner = none → t.probes = s.probes) ∧
          ∀ p tag m, active = true → s.latch.owner = some (p, tag) → s.moves.get p = some m → m.seen = false →
            t.probes = s.probes.set p { valid := true, tag := tag, positions := .ofFn (fun c => (s.axes.get c).meas) })) ∧
  ((∀ (p : Port) (s : State) (bs : List Byte) (e : Entry), Ready s p → 4 ≤ bs.length → bs.length ≤ 38 → decEntry bs = some e →
        e.kind.isProbe = true → s.machine = .run → (s.queues.get p).entries = [] → (∀ r ∈ e.kind.names, s.hasClaim p r = true) →
        s.entryMotionCheck p e.kind = none → s.judgeEarly p e.kind = .passes → s.judgeClamps e.kind = .passes →
        s.holds.isEmpty = true → (∀ a, (s.axes.get a).fault = none) → s.moves.get p = none →
        (∀ q, q ≠ p → (s.queues.get q).entries = [] ∨ (s.queues.get q).moving = true) →
        Replies (.queueEntry p (frame bs)) s p [0, 1] (fun t =>
          (s.latch.owner = none → s.inputs.probe = false →
            t.latch.owner = some (p, e.tag) ∧ p ∉ t.latch.waiting ∧
              t.queues.get p = { entries := [e], head := .executing, stop := .running, timer := none } ∧
              t.moves.get p = some (s.moveOf e)) ∧
          (s.latch.owner = none → s.inputs.probe = true →
            t.latch.owner = none ∧
              t.queues.get p = { entries := [e], head := .failed .probeActive, stop := .running, timer := none } ∧
              Noted s t p (.entryFailed e.tag .probeActive)) ∧
          (∀ q tag, s.latch.owner = some (q, tag) → q ≠ p →
            t.latch.owner = some (q, tag) ∧
              t.latch.waiting = (if p ∈ s.latch.waiting then s.latch.waiting else s.latch.waiting ++ [p]) ∧
              t.queues.get p =
                { entries := [e], head := .starting (some .probeLatch), stop := .running, timer := none }))) ∧
    (∀ (a : Axis) (p q : Port) (d e : Entry) (ds es : List Entry) (m : Move) (s : State), p ≠ q → s.machine = .run →
        s.inputs.driveReady.get a = true → s.conditioner.get (.driveReady a) ≠ none → (∀ c, (s.axes.get c).fault = none) →
        s.moves.get p = some m → (∃ j ∈ m.axes, j.axis = a) →
        s.queues.get p = { entries := d :: ds, head := .executing, stop := .running, timer := none } → d.kind.isMotion = true →
        s.latch = { owner := some (p, d.tag), waiting := [q] } →
        s.queues.get q = { entries := e :: es, head := .starting (some .probeLatch), stop := .running, timer := none } →
        s.moves.get q = none → e.kind.isProbe = true → s.judgeEarly q e.kind = .passes → s.judgeClamps e.kind = .passes →
        a ∉ e.kind.moveAxes → (∀ c ∈ e.kind.moveAxes, c ∉ d.kind.moveAxes) → s.holds.isEmpty = true → s.inputs.probe = false →
        (∀ o, o ≠ p → o ≠ q → (s.queues.get o).entries = [] ∧ s.moves.get o = none) →
        ∃ t, exec (.axisDriveReadyDrop a .stood) s = .next t ∧ t.latch = { owner := some (q, e.tag), waiting := [] } ∧
          t.queues.get p = { entries := d :: ds, head := .failed .axis, stop := .running, timer := none } ∧
          t.queues.get q = { entries := e :: es, head := .executing, stop := .running, timer := none } ∧
          Noted s t p (.entryFailed d.tag .axis)))

/-- O15. AXIS_DRIVE_READY_DROP: going inactive faults the axis DRIVE after START. (section 4.2 of
04_axis_positions_compensation_and_step_output.md, section 4.4 of 04_axis_positions_compensation_and_step_output.md) Where the
manual leaves a point open it rests on the model's choice: notes/assumptions, entry 5. -/
def Obligations.DriveReadyDropFaultsTheAxis : Prop :=
  ∀ (a : Axis) (ready : Bool) (s : State),
    (s.conditioner.get (.driveReady a) = none → exec (.axisDriveReadyDrop a .stood) s = .next s) ∧
    (s.conditioner.get (.driveReady a) ≠ none → s.inputs.driveReady.get a ≠ ready →
      ∃ t, exec (.axisDriveReadyDrop a .stood) s = .next t ∧
        Follows
          { s with
            inputs := { s.inputs with driveReady := s.inputs.driveReady.set a ready }
            conditioner := s.conditioner.set (.driveReady a) none } t ∧
        (∀ c, c ≠ a → (t.axes.get c).fault = (s.axes.get c).fault) ∧
        (ready = true ∨ s.machine = .start → (t.axes.get a).fault = (s.axes.get a).fault) ∧
        (ready = false → s.machine ≠ .start → (s.axes.get a).fault ≠ none → (t.axes.get a).fault = (s.axes.get a).fault) ∧
        (ready = false → s.machine ≠ .start → (s.axes.get a).fault = none →
          (t.axes.get a).fault = some .drive ∧ (t.axes.get a).takeUp = none ∧ (t.hands.get a).pending = 0 ∧
            RaisedHolder s t (.axis a) (.axisFault a .drive)))

/-- O16. CLAMP_SWITCH_CHANGE and the clamp timers: when a clamp is RELEASED, ENGAGED or in FAULT. (section 7.5 of
07_hydraulic_unit_and_axis_clamps.md, section 7.4 of 07_hydraulic_unit_and_axis_clamps.md) Where the manual leaves a point open it
rests on the model's choice: notes/assumptions, entries 4 and 5. -/
def Obligations.ClampsFaultOnSwitchesAndTimers : Prop :=
  (∀ (a : Axis) (which : ClampSwitch) (active : Bool) (s : State),
      let now : State :=
        { s with
          inputs := Inputs.setClampSwitch s.inputs a which active
          conditioner := s.conditioner.set (.clamp a which) none }
      (s.conditioner.get (.clamp a which) = none → exec (.clampSwitchChange a which .stood) s = .next s) ∧
      (s.conditioner.get (.clamp a which) ≠ none → Inputs.clampSwitch s.inputs a which ≠ active →
        ∃ t, exec (.clampSwitchChange a which .stood) s = .next t ∧ Follows now t ∧
          (Quiet s → s.machine ≠ .start → (s.clamps.get a).state = .releasing → now.agreeReleased a = true →
            t.clamps.get a = { s.clamps.get a with state := .released, timer := none }) ∧
          (Quiet s → s.machine ≠ .start → (s.clamps.get a).state = .engaging → now.agreeEngaged a = true →
            t.clamps.get a = { s.clamps.get a with state := .engaged, auto := false, timer := none } ∧
              (t.hands.get a).handReleased = false) ∧
          (∀ c cause, (s.clamps.get c).state = .fault cause → (t.clamps.get c).state = .fault cause) ∧
          (s.machine ≠ .start → active = false →
            (s.clamps.get a).state = .released ∧ which = .released ∨ (s.clamps.get a).state = .engaged ∧ which = .engaged →
            t.clamps.get a = { state := .fault .switch, valve := false, auto := false, timer := none } ∧
              (t.hands.get a).pending = 0 ∧ RaisedHolder s t (.axis a) (.clampFault a .switch)))) ∧
  (∀ (a : Axis) (s : State),
      ((s.clamps.get a).state = .releasing → (s.clamps.get a).timer ≠ none →
        ∃ t, exec (.clampReleaseTimerExpiry a) s = .next t ∧ Follows s t ∧
          t.clamps.get a = { state := .fault .releaseTimeout, valve := false, auto := false, timer := none } ∧
          RaisedHolder s t (.axis a) (.clampFault a .releaseTimeout)) ∧
      ((s.clamps.get a).state = .engaging → (s.clamps.get a).timer ≠ none →
        ∃ t, exec (.clampEngageTimerExpiry a) s = .next t ∧ Follows s t ∧
          t.clamps.get a = { state := .fault .engageTimeout, valve := false, auto := false, timer := none } ∧
          RaisedHolder s t (.axis a) (.clampFault a .engageTimeout)))

/-- O17. HYD_PRESSURE_SWITCH_CHANGE with HYD_RUNON not 0, and HYD_RUNON_TIMER_EXPIRY with the spindle STOPPED: UP, the dip watch, the
end of the run-on. (section 7.2 of 07_hydraulic_unit_and_axis_clamps.md) Where the manual leaves a point open it rests on the
model's choice: notes/assumptions, entries 4, 5 and 38. -/
def Obligations.PressureSwitchAndRunOn : Prop :=
  (∀ (active : Bool) (s : State), s.config.hydRunon ≠ 0 → s.conditioner.get .hydPressure ≠ none → s.inputs.hydPressure ≠ active →
      ∃ t, exec (.hydPressureSwitchChange .stood) s = .next t ∧
        Follows
          { s with
            inputs := { s.inputs with hydPressure := active }, conditioner := s.conditioner.set .hydPressure none } t ∧
        (∀ r, Quiet s → s.hyd.state = .starting → active = true → s.spindle.state = .shifting r .hyd → s.rangeReading ≠ some r →
          t.spindle.state = .shifting r (firstStage s r) ∧ t.spindle.valves = stageValves (firstStage s r) r ∧
            t.spindle.cmdCode = s.config.spindle.wiggleCode.toNat ∧ t.spindle.cmdDir = some .fwd ∧
            t.spindle.stageTimer = some s.config.spindle.shiftLimit.toNat ∧
            t.spindle.halfTimer = some s.config.spindle.wiggleHalf.toNat) ∧
        (s.hyd.state = .starting → active = true → t.hyd.state = .up ∧ t.hyd.pump = s.hyd.pump ∧ t.hyd.startTimer = none) ∧
        (s.hyd.state = .up → active = false → t.hyd.state = .up ∧ t.hyd.dipTimer = some s.config.hydDip.toNat) ∧
        (s.hyd.state = .up → active = true → t.hyd.state = .up ∧ t.hyd.dipTimer = none) ∧
        (s.hyd.state = .lost → t.hyd = s.hyd)) ∧
  (∀ s : State, Quiet s → s.hyd.state = .up → s.hyd.runonTimer ≠ none → s.demand = false → s.spindle.state = .stopped →
      ∃ t, exec .hydRunonTimerExpiry s = .next t ∧ UnitsFollow s t ∧ t.hyd = Hyd.stopped ∧ t.spindle = s.spindle)

/-- O18. HYD_START_TIMER_EXPIRY and HYD_DIP_TIMER_EXPIRY: the unit is LOST, every clamp engages and a shift in progress faults.
(section 7.2 of 07_hydraulic_unit_and_axis_clamps.md, section 7.5 of 07_hydraulic_unit_and_axis_clamps.md, section 8.6 of
08_spindle_and_gearbox.md) Where the manual leaves a point open it rests on the model's choice: notes/assumptions, entry 4. -/
def Obligations.PressureLossEngagesEveryClamp : Prop :=
  ∀ s : State, ValveLaw s →
    let lost := fun i : Instr =>
      ∃ t, exec i s = .next t ∧ Follows s t ∧ t.hyd = { Hyd.stopped with state := .lost } ∧
        (∀ a, (t.clamps.get a).valve = false ∧ (t.clamps.get a).state.demands = false ∧
          ((s.clamps.get a).state.demands = true → (t.clamps.get a).state = .engaging ∨ (t.clamps.get a).state = .engaged) ∧
          ((s.clamps.get a).state = .released → s.standing a = false →
            (t.axes.get a).fault = some ((s.axes.get a).fault.getD .clamp) ∧
              ((s.axes.get a).fault = none → ∀ p, s.holder (.axis a) = some p → Noted s t p (.axisFault a .clamp)))) ∧
        (s.spindle.state.demands = true →
          t.spindle.state = .fault .hydraulic ∧ AtRest t.spindle ∧ t.spindle.valves = .allOff ∧
            ∀ p, s.holder .spindle = some p → Noted s t p (.gearFault .hydraulic)) ∧
        ∀ p, s.holdsHydraulic p = true → Raised s t p .hydraulicLost
    (s.hyd.state = .starting → s.hyd.startTimer ≠ none → lost .hydStartTimerExpiry) ∧
    (s.hyd.state = .up → s.hyd.dipTimer ≠ none → lost .hydDipTimerExpiry)

/-- O19. HAND_RECLAMP_TIMER_EXPIRY engages, ENABLING_SWITCH_DROP and PANEL_HOLD_INPUT_CHANGE zero the pending distances. (section 6.6
of 06_handwheel_jogging.md, section 6.4 of 06_handwheel_jogging.md, section 10.3 of
10_machine_state_emergency_stop_and_feed_hold.md) Where the manual leaves a point open it rests on the model's choice:
notes/assumptions, entries 4 and 5. -/
def Obligations.HandMotionIsTakenBack : Prop :=
  (∀ (a : Axis) (s : State), Quiet s → (s.hands.get a).idle ≠ none → (s.clamps.get a).auto = true →
      (s.clamps.get a).state.demands = true →
      ∃ t, exec (.handReclampTimerExpiry a) s = .next t ∧ Follows s t ∧
        ((t.clamps.get a).state = .engaging ∨ (t.clamps.get a).state = .engaged) ∧ (t.clamps.get a).valve = false ∧
        (t.clamps.get a).auto = false ∧ (t.hands.get a).handReleased = false ∧ (t.hands.get a).pending = 0) ∧
  (∀ (active : Bool) (s : State),
      (s.conditioner.get .enabling = none → exec (.enablingSwitchDrop .stood) s = .next s) ∧
      (s.conditioner.get .enabling ≠ none → s.inputs.enabling ≠ active →
        ∃ t, exec (.enablingSwitchDrop .stood) s = .next t ∧
          Follows
            { s with inputs := { s.inputs with enabling := active }, conditioner := s.conditioner.set .enabling none } t ∧
          (active = false → ∀ a, (t.hands.get a).pending = 0)) ∧
      (s.conditioner.get .panelHold = none → exec (.panelHoldInputChange .stood) s = .next s) ∧
      (s.conditioner.get .panelHold ≠ none → s.inputs.panelHold ≠ active →
        ∃ t, exec (.panelHoldInputChange .stood) s = .next t ∧
          Follows
            { s with
              inputs := { s.inputs with panelHold := active }
              conditioner := s.conditioner.set .panelHold none
              holds := if s.machine = .start then s.holds else { s.holds with panel := active } } t ∧
          (s.machine ≠ .start → active = true → ∀ a, (t.hands.get a).pending = 0)))

/-- O20. DWELL_TIMER_EXPIRY completes the head, WAIT_TIMER_EXPIRY fails it TIMEOUT. (section 2.7 of 02_program_queues.md, section 2.8
of 02_program_queues.md) Where the manual leaves a point open it rests on the model's choice: notes/assumptions, entry 4. -/
def Obligations.DwellAndWaitTimersEndTheHead : Prop :=
  ∀ (p : Port) (s : State) (e : Entry) (rest : List Entry) (ms : Nat), s.moves.get p = none →
    s.queues.get p = { entries := e :: rest, head := .executing, stop := .running, timer := some ms } →
    (∀ n, e.kind = .dwell n →
      ∃ t, exec (.dwellTimerExpiry p) s = .next t ∧ Follows s t ∧
        (s.holds.isEmpty = true → Raised s t p (.entryDone e.tag false) ∧ (t.queues.get p).entries <:+ rest) ∧
        (s.holds.isEmpty = false → t.queues.get p = s.queues.get p)) ∧
    (∀ c n, e.kind = .wait c n →
      ∃ t, exec (.waitTimerExpiry p) s = .next t ∧ Follows s t ∧ Raised s t p (.entryFailed e.tag .timeout) ∧
        t.queues.get p = { entries := e :: rest, head := .failed .timeout, stop := .running, timer := none })

/-- O21. SPINDLE_ENCODER_EDGE, TACH_WINDOW_LIMIT_EXPIRY and TACH_GATE_END: the two ways of measuring. (section 8.1 of
08_spindle_and_gearbox.md) Where the manual leaves a point open it rests on the model's choice: notes/assumptions, entries 3 and
17. -/
def Obligations.SpindleEdgesMeasureTheSpeed : Prop :=
  ∀ (time : Nat) (s : State),
    (s.spindle.tach = .period none →
      ∃ t, exec (.spindleEncoderEdge time) s = .next t ∧
        Follows (s.updSpindle (fun sp => { sp with tach := .period (some (time, 0)) })) t) ∧
    (∀ opened n, s.spindle.tach = .period (some (opened, n)) →
      (n < 15 →
        ∃ t, exec (.spindleEncoderEdge time) s = .next t ∧
          Follows (s.updSpindle (fun sp => { sp with tach := .period (some (opened, n + 1)) })) t) ∧
      (n = 15 → opened < time →
        ∃ t, exec (.spindleEncoderEdge time) s = .next t ∧ t.spindle.measured = 9375000 / (time - opened) ∧
          t.spindle.tach = (if 600 ≤ 9375000 / (time - opened) then .count 0 else .period (some (time, 0))) ∧
          t.inputs = s.inputs ∧ t.machine = s.machine ∧ (∀ a, AxisKept (s.axes.get a) (t.axes.get a))) ∧
      ∃ t, exec .tachWindowLimitExpiry s = .next t ∧ t.spindle.measured = 0 ∧ t.spindle.tach = .period none ∧
        t.inputs = s.inputs ∧ t.machine = s.machine ∧ (∀ a, AxisKept (s.axes.get a) (t.axes.get a))) ∧
    (∀ n, s.spindle.tach = .count n →
      (∃ t, exec (.spindleEncoderEdge time) s = .next t ∧
        Follows (s.updSpindle (fun sp => { sp with tach := .count (n + 1) })) t) ∧
      ∃ t, exec .tachGateEnd s = .next t ∧ t.spindle.measured = n * 1875 / 32 ∧
        t.spindle.tach = (if n * 1875 / 32 < 500 then .period none else .count 0) ∧
        t.inputs = s.inputs ∧ t.machine = s.machine ∧ (∀ a, AxisKept (s.axes.get a) (t.axes.get a)))

/-- O22. STANDSTILL, AT_SPEED and WIGGLE_HALF timer expiries: the flags, the ends of STOPPING and HALT, and rocking. (section 8.1 of
08_spindle_and_gearbox.md, section 8.3 of 08_spindle_and_gearbox.md, section 8.5 of 08_spindle_and_gearbox.md) Where the manual
leaves a point open it rests on the model's choice: notes/assumptions, entries 4 and 38. -/
def Obligations.SpindleTimersSetTheFlagsAndReverseTheRocking : Prop :=
  ∀ s : State,
    (s.spindle.standstillTimer ≠ none →
      ∃ t, exec .standstillTimerExpiry s = .next t ∧ t.spindle.standstill = true ∧ t.spindle.standstillTimer = none ∧
        Follows (s.updSpindle (fun sp => { sp with standstill := true, standstillTimer := none })) t ∧
        (Quiet s → s.spindle.outCode = 0 → s.spindle.relay = none →
          (s.spindle.state = .stopping → t.spindle.state = .stopped ∧ t.spindle.stopTimer = none) ∧
          ∀ r, s.spindle.state = .shifting r .halt →
            (s.hyd.state = .lost →
              t.spindle.state = .fault .hydraulic ∧ AtRest t.spindle ∧ RaisedHolder s t .spindle (.gearFault .hydraulic)) ∧
            (s.hyd.state = .starting → s.demand = true → t.spindle.state = .shifting r .hyd ∧ t.spindle.stopTimer = none) ∧
            (s.hyd.state = .off → s.machine = .run → s.inputs.hydPressure = false →
              t.spindle.state = .shifting r .hyd ∧ t.spindle.stopTimer = none ∧ t.hyd.state = .starting ∧ t.hyd.pump = true ∧
                t.hyd.startTimer = some s.config.hydStartLimit.toNat) ∧
            (s.hyd.state = .up → s.demand = true ∨ s.hyd.runonTimer ≠ none → s.rangeReading ≠ some r →
              t.spindle.state = .shifting r (firstStage s r) ∧ t.spindle.valves = stageValves (firstStage s r) r ∧
                t.spindle.cmdCode = s.config.spindle.wiggleCode.toNat ∧ t.spindle.cmdDir = some .fwd))) ∧
    (Quiet s → s.spindle.state = .running → s.spindle.atSpeedTimer ≠ none →
      ∃ t, exec .atSpeedTimerExpiry s = .next t ∧ UnitsFollow s t ∧
        t.spindle = { s.spindle with atSpeed := true, atSpeedTimer := none }) ∧
    (∀ r stage d, s.spindle.state = .shifting r stage →
      stage = .cylA ∧ s.readA ≠ some r.wantA ∨ stage = .cylB ∧ s.readB ≠ some r.wantB →
      s.spindle.halfTimer ≠ none → s.spindle.cmdDir = some d →
      ∃ t, exec .wiggleHalfTimerExpiry s = .next t ∧ Follows s t ∧ t.spindle.state = .shifting r stage ∧
        t.spindle.cmdDir = some (if d = .fwd then .rev else .fwd) ∧ t.spindle.cmdCode = s.spindle.cmdCode ∧
        t.spindle.halfTimer = some s.config.spindle.wiggleHalf.toNat)

/-- O23. SPINDLE_STOP_TIMER, SHIFT_STAGE_TIMER and SPINDLE_DRIVE_READY_DROP put the spindle unit in FAULT. (section 8.5 of
08_spindle_and_gearbox.md, section 8.6 of 08_spindle_and_gearbox.md) Where the manual leaves a point open it rests on the model's
choice: notes/assumptions, entries 4, 5, 18 and 37. -/
def Obligations.SpindleFaultsComeToRest : Prop :=
  ∀ (ready : Bool) (s : State),
    let failed := fun (t : State) (cause : GearCause) =>
      t.spindle.state = .fault cause ∧ t.spindle.speed = 0 ∧ t.spindle.effective = 0 ∧ AtRest t.spindle ∧
        t.spindle.valves = .allOff ∧ t.spindle.engaged = t.rangeReading ∧ t.spindle.atSpeed = false ∧
        t.spindle.stopTimer = none ∧ t.spindle.stageTimer = none ∧ t.spindle.halfTimer = none ∧
        RaisedHolder s t .spindle (.gearFault cause)
    (s.spindle.state.isFault = false → s.spindle.stopTimer ≠ none →
      ∃ t, exec .spindleStopTimerExpiry s = .next t ∧ Follows s t ∧ failed t .stopTimeout) ∧
    (s.spindle.state.isFault = false → s.spindle.stageTimer ≠ none →
      ∃ t, exec .shiftStageTimerExpiry s = .next t ∧ Follows s t ∧ failed t .shiftTimeout) ∧
    (s.conditioner.get .spindleReady = none → exec (.spindleDriveReadyDrop .stood) s = .next s) ∧
    (s.conditioner.get .spindleReady ≠ none → s.inputs.spindleReady ≠ ready →
      ∃ t, exec (.spindleDriveReadyDrop .stood) s = .next t ∧
        Follows
          { s with
            inputs := { s.inputs with spindleReady := ready }, conditioner := s.conditioner.set .spindleReady none } t ∧
        (s.spindle.state.isFault = false → ready = false → s.machine ≠ .start → failed t .drive))

/-- O24. GEAR_SWITCH_CHANGE: the engaged range, RANGE_LOST, the ends of the cylinder stages and the confirmation of a shift. (section
8.2 of 08_spindle_and_gearbox.md, section 8.6 of 08_spindle_and_gearbox.md, section 8.5 of 08_spindle_and_gearbox.md) Where the
manual leaves a point open it rests on the model's choice: notes/assumptions, entries 5 and 18. -/
def Obligations.GearSwitchesAreWatched : Prop :=
  ∀ (g : GearSwitch) (active : Bool) (s : State),
    let now : State :=
      { s with inputs := Inputs.setGear s.inputs g active, conditioner := s.conditioner.set (.gear g) none }
    (s.conditioner.get (.gear g) = none → exec (.gearSwitchChange g .stood) s = .next s) ∧
    (s.conditioner.get (.gear g) ≠ none → Inputs.gear s.inputs g ≠ active →
      ∃ t, exec (.gearSwitchChange g .stood) s = .next t ∧ Follows now t ∧
        (∀ r, s.spindle.state = .shifting r .cylA → now.readA ≠ some r.wantA → t.spindle.state = .shifting r .cylA) ∧
        (∀ r, s.spindle.state = .shifting r .cylB → now.readB ≠ some r.wantB → t.spindle.state = .shifting r .cylB) ∧
        (∀ r, s.spindle.state = .shifting r .cylA → now.readA = some r.wantA → s.spindle.moveB = true → now.readB ≠ some r.wantB →
          t.spindle.state = .shifting r .cylB ∧ t.spindle.valves = stageValves .cylB r ∧
            t.spindle.stageTimer = some s.config.spindle.shiftLimit.toNat ∧ t.spindle.halfTimer = s.spindle.halfTimer ∧
            t.spindle.cmdCode = s.spindle.cmdCode ∧ t.spindle.cmdDir = s.spindle.cmdDir) ∧
        (∀ r,
          s.spindle.state = .shifting r .cylA ∧ now.readA = some r.wantA ∧ s.spindle.moveB = false ∨
            s.spindle.state = .shifting r .cylB ∧ now.readB = some r.wantB →
          (now.rangeReading ≠ some r →
            t.spindle.state = .fault .rangeLost ∧ AtRest t.spindle ∧ t.spindle.valves = .allOff ∧
              t.spindle.engaged = now.rangeReading ∧ RaisedHolder s t .spindle (.gearFault .rangeLost)) ∧
          (now.rangeReading = some r → Quiet s →
            t.spindle.engaged = some r ∧
            (s.spindle.speed = 0 →
              t.spindle.state = .stopped ∧ t.spindle.effective = 0 ∧ AtRest t.spindle ∧ t.spindle.valves = .allOff) ∧
            (s.spindle.speed ≠ 0 → s.config.contains r (s.config.clampSpeed s.spindle.speed) = true →
              t.spindle.state = .running ∧ t.spindle.effective = s.effectiveSpeed r s.spindle.speed ∧
                t.spindle.cmdCode = s.config.driveCode r (s.effectiveSpeed r s.spindle.speed) ∧
                t.spindle.cmdDir = some s.spindle.dir.drive ∧ t.spindle.outCode = 0 ∧ t.spindle.relay = none ∧
                t.spindle.valves = .allOff) ∧
            (s.spindle.speed ≠ 0 → s.config.contains r (s.config.clampSpeed s.spindle.speed) = false →
              s.config.chooseRange (some r) s.spindle.speed ≠ r → s.hyd.state ≠ .lost →
              ∃ stage, t.spindle.state = .shifting (s.config.chooseRange (some r) s.spindle.speed) stage))) ∧
        (Quiet s → s.machine ≠ .start → s.spindle.state = .stopped →
          UnitsFollow now t ∧ t.spindle = { s.spindle with engaged := now.rangeReading }) ∧
        (s.machine ≠ .start →
          s.spindle.state = .running ∨ s.spindle.state = .stopping ∨ (∃ r, s.spindle.state = .shifting r .halt) ∨
            (∃ r, s.spindle.state = .shifting r .hyd) →
          now.rangeReading ≠ s.spindle.engaged →
          t.spindle.state = .fault .rangeLost ∧ AtRest t.spindle ∧ t.spindle.engaged = now.rangeReading ∧
            RaisedHolder s t .spindle (.gearFault .rangeLost)))

/-- O25. The coolant pressure switch, its timers and the low level. (section 9.3 of 09_coolant.md, section 9.4 of 09_coolant.md) Where
the manual leaves a point open it rests on the model's choice: notes/assumptions, entries 4 and 5. -/
def Obligations.CoolantSwitchesAndTimers : Prop :=
  (∀ (active : Bool) (s : State), Quiet s →
      let faulted := fun (cause : CoolantCause) =>
        { s.coolant with through := .fault cause, throughPump := false, primeTimer := none, lossTimer := none }
      (s.conditioner.get .coolantPressure = none → exec (.coolantPressureSwitchChange .stood) s = .next s) ∧
      (s.conditioner.get .coolantPressure ≠ none → s.inputs.coolantPressure ≠ active →
        ∃ t, exec (.coolantPressureSwitchChange .stood) s = .next t ∧
          Follows
            { s with
              inputs := { s.inputs with coolantPressure := active }
              conditioner := s.conditioner.set .coolantPressure none } t ∧
          t.coolant =
            match s.coolant.through with
            | .priming => if active then { s.coolant with through := .on, primeTimer := none } else s.coolant
            | .on => { s.coolant with lossTimer := if active then none else some s.config.tscLoss.toNat }
            | _ => s.coolant) ∧
      (s.coolant.primeTimer ≠ none →
        ∃ t, exec .tscPrimeTimerExpiry s = .next t ∧ Follows s t ∧ t.coolant = faulted .primeTimeout ∧
          RaisedHolder s t .coolant (.coolantFault .primeTimeout)) ∧
      (s.coolant.lossTimer ≠ none →
        ∃ t, exec .tscLossTimerExpiry s = .next t ∧ Follows s t ∧ t.coolant = faulted .pressureLost ∧
          RaisedHolder s t .coolant (.coolantFault .pressureLost))) ∧
  (∀ (active : Bool) (s : State), Quiet s →
      (s.conditioner.get .lowLevel = none → exec (.lowLevelSwitchChange .stood) s = .next s) ∧
      (s.conditioner.get .lowLevel ≠ none → s.inputs.lowLevel ≠ active →
        ∃ t, exec (.lowLevelSwitchChange .stood) s = .next t ∧
          Follows
            { s with inputs := { s.inputs with lowLevel := active }, conditioner := s.conditioner.set .lowLevel none } t ∧
          (active = false ∨ s.machine = .start → t.coolant = s.coolant) ∧
          (active = true → s.machine ≠ .start →
            t.coolant.mode = s.coolant.mode ∧ t.coolant.primeTimer = none ∧ t.coolant.lossTimer = none ∧
            t.coolant.flood = (if s.coolant.flood.isFault then s.coolant.flood else .fault .lowLevel) ∧
            t.coolant.through = (if s.coolant.through.isFault then s.coolant.through else .fault .lowLevel) ∧
            (s.coolant.flood.isFault = false ∨ s.coolant.through.isFault = false →
              t.coolant.floodPump = false ∧ t.coolant.throughPump = false ∧
                RaisedHolder s t .coolant (.coolantFault .lowLevel)))))

/-- O26. BREAK: select's rise and fall, and at the end of the break time IDLE again and what a cut command leaves. (section 11.2 of
11_link_ports.md, section 10.4 of 10_machine_state_emergency_stop_and_feed_hold.md, section 4.5 of
04_axis_positions_compensation_and_step_output.md, section 12.3 of 12_stored_configuration_and_start_up.md, section 11.1 of
11_link_ports.md) Where the manual leaves a point open it rests on the model's choice: notes/assumptions, entries 4 and 6. -/
def Obligations.BreakEndsTheFrame : Prop :=
  ∀ (p : Port) (s : State),
    exec (.linkBreak ⟨p, .rises⟩) s =
      .next (s.updPort p (fun l => if l.select then l else { l with select := true, bits := [], breakTimer := some 2 })) ∧
    exec (.linkBreak ⟨p, .falls⟩) s = .next (s.updPort p (fun l => { l with select := false, breakTimer := none })) ∧
    (∀ i code c, linkRow i = some (p, code, c) →
      ((s.ports.get p).select = true → exec i s = .next s) ∧
      ((s.ports.get p).select = false →
        ∃ t, exec i s = .next t ∧
          (t.ports.get p).bits.length = ((s.ports.get p).bits.length + c.bits.length) % 8)) ∧
    ((s.ports.get p).breakTimer = none → exec (.linkBreak ⟨p, .stood⟩) s = .next s) ∧
    ((s.ports.get p).breakTimer ≠ none →
      ((s.ports.get p).phase = .idle ∨ (s.ports.get p).phase = .spent ∨ (∃ left, (s.ports.get p).phase = .reply left) →
        exec (.linkBreak ⟨p, .stood⟩) s = .next (s.updPort p (fun l => { l with phase := .idle, bits := [], breakTimer := none }))) ∧
      (∀ code, (s.ports.get p).phase = .length code →
        exec (.linkBreak ⟨p, .stood⟩) s = .next (s.updPort p (fun l => { l with phase := .idle, bits := [], breakTimer := none, cut := true }))) ∧
      (∀ code n got, (s.ports.get p).phase = .parameters code n got →
        ((s.machine = .start ∨ (s.ports.get p).state = .lost ∨ (code ≠ 19 ∧ code ≠ 67 ∧ code ≠ 128) ∨ (code = 19 ∧ n ≠ 3) ∨
              (code = 67 ∧ (n.toNat % 2 = 0 ∨ got = [] ∨ ∃ ax vals, got = ax :: vals ∧ 4 < ax.toNat)) ∨ (code = 128 ∧ n.toNat % 6 ≠ 0)) →
          exec (.linkBreak ⟨p, .stood⟩) s = .next (s.updPort p (fun l => { l with phase := .idle, bits := [], breakTimer := none, cut := true }))) ∧
        (s.machine ≠ .start → (s.ports.get p).state = .active → code = 67 → n.toNat % 2 = 1 → ∀ (a : Axis) (vals : List Byte),
          got = enc1 (Axis.code a) :: vals →
          (s.hasClaim p (.axis a) = false ∨ (s.axes.get a).compEnabled = true →
            exec (.linkBreak ⟨p, .stood⟩) s = .next (s.updPort p (fun l => { l with phase := .idle, bits := [], breakTimer := none, cut := true }))) ∧
          (s.hasClaim p (.axis a) = true → (s.axes.get a).compEnabled = false →
            let w := writeValues (s.config.comp.get a) (s.axes.get a).window (decValues vals)
            ∃ u, exec (.linkBreak ⟨p, .stood⟩) s = .next (u.updPort p (fun l => { l with phase := .idle, bits := [], breakTimer := none, cut := true })) ∧
              Follows
                { s with
                  config := { s.config with comp := s.config.comp.set a w.1 }
                  axes := s.axes.set a { s.axes.get a with window := w.2.1 } } u)) ∧
        (s.machine ≠ .start → (s.ports.get p).state = .active → code = 128 → n.toNat % 6 = 0 →
          ∃ u, exec (.linkBreak ⟨p, .stood⟩) s = .next (u.updPort p (fun l => { l with phase := .idle, bits := [], breakTimer := none, cut := true })) ∧
            Follows (State.writeGroups p s got).1 u) ∧
        (s.machine ≠ .start → (s.ports.get p).state = .active → code = 19 → n = 3 →
          ∃ u, exec (.linkBreak ⟨p, .stood⟩) s = .next (u.updPort p (fun l => { l with phase := .idle, bits := [], breakTimer := none, cut := true })) ∧
            Follows
              { s with
                overrides :=
                  { feed := match got with
                      | [] => s.overrides.feed
                      | f :: _ => min f.toNat 150
                    rapid := match got with
                      | _ :: r :: _ => min r.toNat 100
                      | _ => s.overrides.rapid
                    spindle := match got with
                      | _ :: _ :: v :: _ => max 50 (min v.toNat 120)
                      | _ => s.overrides.spindle } } u)))

/-- O27. SILENCE_TIMER_EXPIRY: the port is LOST, what it held is ORPHANED from it, and how ORPHANED rows are resolved and passed on.
(section 11.6 of 11_link_ports.md, section 1.8 of 01_resources_and_claims.md, section 1.4 of 01_resources_and_claims.md) Where the
manual leaves a point open it rests on the model's choice: notes/assumptions, entries 4, 5 and 25. -/
def Obligations.SilenceLosesThePort : Prop :=
  (∀ (p : Port) (s : State),
      ((s.ports.get p).silence = none → exec (.silenceTimerExpiry p) s = .next s) ∧
      ((s.ports.get p).silence ≠ none →
        ∃ t, exec (.silenceTimerExpiry p) s = .next t ∧
          t.ports.get p =
            { s.ports.get p with state := .lost, silence := none, events := [.linkLost], eventsLost := false } ∧
          t.holds = { s.holds with links := s.holds.links.set p false } ∧
          (∀ r, t.hasClaim p r = false) ∧ (∀ r, p ∉ (t.row r).waiting) ∧
          (∀ r, s.hasClaim p r = true →
            let lost : ClaimRow := { state := .orphaned p, waiting := (s.row r).waiting.filter (fun q => decide (q ≠ p)) }
            t.row r = lost ∨
              t.row r = passed lost ∧ ∀ q rest, lost.waiting = q :: rest → Noted s t q (.claimGranted r)) ∧
          (∀ r, s.hasClaim p r = false → s.orphanedFrom r = none →
            t.row r = { s.row r with waiting := (s.row r).waiting.filter (fun q => decide (q ≠ p)) }) ∧
          (∀ a, s.hasClaim p (.axis a) = true → s.moveOn a = true → (s.queues.get p).moving = true →
            (s.clamps.get a).state.isFault = false → (∀ c, (s.axes.get c).fault = none) →
            t.row (.axis a) =
              { state := .orphaned p, waiting := (s.row (.axis a)).waiting.filter (fun q => decide (q ≠ p)) }) ∧
          (s.hasClaim p .spindle = true → s.spindle.state = .running → s.spindle.quiet = false → NothingQueued s →
            t.row .spindle =
              { state := .orphaned p, waiting := (s.row .spindle).waiting.filter (fun q => decide (q ≠ p)) } ∧
            t.spindle.state = .stopping ∧ t.spindle.speed = 0 ∧ t.spindle.cmdCode = 0 ∧ t.spindle.cmdDir = none ∧
            (s.hasClaim p .coolant = true →
              t.row .coolant =
                { state := .orphaned p, waiting := (s.row .coolant).waiting.filter (fun q => decide (q ≠ p)) } ∧
              t.coolant.mode = s.coolant.mode)) ∧
          ((t.queues.get p).entries = [] ∨
            ((s.queues.get p).moving = true ∧ (t.queues.get p).entries = (s.queues.get p).entries.take 1 ∧
              (t.queues.get p).stop = .portLost ∧ t.moves.get p = (s.moves.get p).map Move.requestStop)) ∧
          (∀ a, s.hasClaim p (.axis a) = true → (t.hands.get a).pending = 0) ∧
          (∀ q, q ≠ p → PortKept (s.ports.get q) (t.ports.get q)) ∧ (∀ a, AxisKept (s.axes.get a) (t.axes.get a)) ∧
          t.inputs = s.inputs ∧ t.machine = s.machine ∧ t.overrides = s.overrides ∧ t.config = s.config ∧ t.zones = s.zones ∧
          t.probes = s.probes)) ∧
  ((∀ (a : Axis) (which : ClampSwitch) (active : Bool) (s : State) (p : Port),
        let now : State := { s with inputs := Inputs.setClampSwitch s.inputs a which active }
        s.machine ≠ .start → s.orphanedFrom (.axis a) = some p → s.standing a = true → (s.clamps.get a).state = .engaging →
        s.conditioner.get (.clamp a which) ≠ none → Inputs.clampSwitch s.inputs a which ≠ active → now.agreeEngaged a = true →
        ∃ t, exec (.clampSwitchChange a which .stood) s = .next t ∧ t.row (.axis a) = passed (s.row (.axis a)) ∧
          Granted s t (.axis a)) ∧
    (∀ (a : Axis) (s : State) (p : Port), s.orphanedFrom (.axis a) = some p → (s.clamps.get a).state = .engaging →
        (s.clamps.get a).timer ≠ none →
        ∃ t, exec (.clampEngageTimerExpiry a) s = .next t ∧ t.row (.axis a) = passed (s.row (.axis a)) ∧
          (t.clamps.get a).state = .fault .engageTimeout ∧ Granted s t (.axis a)) ∧
    (∀ (a : Axis) (s : State) (p : Port), NothingQueued s → s.orphanedFrom (.axis a) = some p → s.standing a = true →
        (s.clamps.get a).state.demands = true → s.machine ≠ .start →
        ∃ t, exec .standstillTimerExpiry s = .next t ∧ (t.clamps.get a).valve = false ∧
          ((t.clamps.get a).state = .engaging ∧ t.row (.axis a) = s.row (.axis a) ∨
            (t.clamps.get a).state = .engaged ∧ t.row (.axis a) = passed (s.row (.axis a)))) ∧
    (∀ (s : State) (p : Port), NothingQueued s → s.orphanedFrom .spindle = some p →
        let resolved := fun t : State =>
          t.row .spindle = passed (s.row .spindle) ∧ Granted s t .spindle ∧
            (s.orphanedFrom .coolant = some p →
              t.row .coolant = passed (s.row .coolant) ∧ Granted s t .coolant ∧ t.coolant.mode = .off ∧ t.coolant.flood = .off ∧
                t.coolant.through = .off ∧ t.coolant.floodPump = false ∧ t.coolant.throughPump = false)
        (s.spindle.state.isFault = false → s.spindle.stopTimer ≠ none →
          ∃ t, exec .spindleStopTimerExpiry s = .next t ∧ t.spindle.state = .fault .stopTimeout ∧ resolved t) ∧
        (s.spindle.state = .stopping → s.spindle.outCode = 0 → s.spindle.relay = none → s.spindle.standstillTimer ≠ none →
          s.claims.spindleStopSent = true →
          ∃ t, exec .standstillTimerExpiry s = .next t ∧ t.spindle.state = .stopped ∧ resolved t)))

/-- O28. CONFIG_STORE_END and CONFIG_RELOAD_END: the image written, the configuration taken. (section 12.4 of
12_stored_configuration_and_start_up.md) Where the manual leaves a point open it rests on the model's choice: notes/assumptions,
entry 11. -/
def Obligations.StoreAndReloadEnd : Prop :=
  ∀ (landed : List Byte) (acked : Bool) (s : State),
    (∀ p image, s.store.op = .storing p image → Memory.wf s.serial = true → image.length ≤ serialSize →
      landed.length ≤ serialSize →
      (∃ t, exec (.configStoreEnd .ok) s = .next t ∧ t.store = { defaults := false, op := .idle } ∧
        (∀ a, Memory.read t.serial a = if h : a < image.length then image[a] else Memory.read s.serial a) ∧
        Raised s t p (.configDone true) ∧
        Follows { s with serial := t.serial, store := t.store } t) ∧
      (∃ t, exec (.configStoreEnd (.failed landed)) s = .next t ∧ t.store = { s.store with op := .idle } ∧
        (∀ a, Memory.read t.serial a = if h : a < landed.length then landed[a] else Memory.read s.serial a) ∧
        Raised s t p (.configDone false) ∧
        Follows { s with serial := t.serial, store := t.store } t)) ∧
    (∀ p ran, s.store.op = .reloading p ran →
      (∀ c, s.readImage acked = some c → ran = false →
        ∃ t, exec (.configReloadEnd acked) s = .next t ∧ t.config = c ∧ t.zones = placePinned c.pinned ∧
          t.store = { defaults := false, op := .idle } ∧ t.serial = s.serial ∧ t.inputs = s.inputs ∧ t.machine = s.machine ∧
          (∀ a, (t.axes.get a).compEnabled = false ∧ (t.axes.get a).cmd = (s.axes.get a).out ∧
            (t.axes.get a).out = (s.axes.get a).out ∧ (t.axes.get a).meas = (s.axes.get a).meas) ∧
          Raised s t p (.configDone true)) ∧
      (s.readImage acked = none ∨ ran = true →
        ∃ t, exec (.configReloadEnd acked) s = .next t ∧ Follows { s with store := { s.store with op := .idle } } t ∧
          Raised s t p (.configDone false)))

/-- O29. The four checks of admission, for every link row and every length. (section 11.3 of 11_link_ports.md, section 11.1 of
11_link_ports.md, section 11.2 of 11_link_ports.md) Where the manual leaves a point open it rests on the model's choice:
notes/assumptions, entries 6 and 40. -/
def Obligations.CommandsAreAdmittedInOrder : Prop :=
  ∀ (i : Instr) (s : State) (p : Port) (code n : Byte) (ps : List Byte),
    linkRow i = some (p, code, { bytes := n :: ps, bits := [] }) →
    ({ bytes := n :: ps, bits := [] } : Clocked).complete = true → Listening s p →
    (Cmd.ofCode code.toNat = none → exec i s = .next (onlyReply s p [15])) ∧
    ∀ c, Cmd.ofCode code.toNat = some c →
      (s.machine = .start ∧ c ≠ .status ∧ c ≠ .identify → exec i s = .next (onlyReply s p [8])) ∧
      (s.machine ≠ .start ∨ c = .status ∨ c = .identify →
        ((s.ports.get p).state = .lost ∧ c ≠ .status ∧ c ≠ .identify ∧ c ≠ .readEvents ∧ c ≠ .rejoin →
          exec i s = .next (onlyReply s p [7])) ∧
        ((s.ports.get p).state = .active ∨ c = .status ∨ c = .identify ∨ c = .readEvents ∨ c = .rejoin →
          (c.lengthOk n.toNat = false → exec i s = .next (onlyReply s p [6])) ∧
          (c.lengthOk n.toNat = true →
            let m := completing s p code n ps
            let e := m.runCommand p c ps
            exec i s = .next ((m.commit p e).updPort p (fun l =>
              { l with phase := .reply (enc1 e.reply.length :: e.reply), bits := [], cut := false })))))

/-- O30. READ CLAIMS: seven row reports, and LOST from a lost port. (R11) -/
def Obligations.ReadClaimsReportsTheTable : Prop :=
  ∀ (p : Port) (s : State), Listening s p → s.machine ≠ .start →
    ((s.ports.get p).state = .active →
      exec (.readClaims p (frame [])) s =
        .next (onlyReply s p (0 ::
          [Resource.axis .x, .axis .y, .axis .z, .axis .w, .axis .b, .spindle, .coolant].flatMap (fun r =>
            (match (s.row r).state with
              | .free => [0, 0]
              | .held h => [1, enc1 (Port.code h)]
              | .orphaned l => [2, enc1 (Port.code l)]) ++
            enc1 (s.row r).waiting.length :: (s.row r).waiting.map (fun q => enc1 (Port.code q)))))) ∧
    ((s.ports.get p).state = .lost → exec (.readClaims p (frame [])) s = .next (onlyReply s p [7]))

/-- O31. IDENTIFY: part name, version, port number and silence limit, in every state. (section 11.7 of 11_link_ports.md, section 13.1
of 13_frame_and_record_layouts.md) Where the manual leaves a point open it rests on the model's choice: notes/assumptions, entry
41. -/
def Obligations.IdentifyNamesThePart : Prop :=
  ∀ (p : Port) (s : State), Listening s p →
    exec (.identify p (frame [])) s =
      .next (onlyReply s p
        ([0, 13, 86, 97, 119, 115, 101, 108, 32, 72, 66, 45, 51, 49, 48, 1, enc1 (Port.code p)] ++
          enc4 (s.config.silence.get p)))

/-- O32. READ POSITIONS: five axis reports. (R93) -/
def Obligations.ReadPositionsReportsTheAxes : Prop :=
  ∀ (p : Port) (s : State), Ready s p →
    exec (.readPositions p (frame [])) s =
      .next (onlyReply s p (0 ::
        [Axis.x, .y, .z, .w, .b].flatMap (fun a =>
          enc4 (s.axes.get a).cmd ++ enc4 (s.axes.get a).out ++ enc4 (s.axes.get a).meas ++ enc2 ((s.axes.get a).out - (s.axes.get a).cmd) ++ enc4 (s.axes.get a).backlog ++
            enc4 ((s.axes.get a).out - (s.axes.get a).backlog - (s.axes.get a).meas).natAbs ++
            [enc1 ((if (s.axes.get a).referenced then 1 else 0) + (if (s.axes.get a).compEnabled then 2 else 0) + (if (s.axes.get a).takeUp.isSome then 4 else 0) +
              (if s.standing a then 8 else 0) + (if s.followUp a then 16 else 0)),
            match (s.axes.get a).fault with
            | none => 0
            | some .following => 1
            | some .encoder => 2
            | some .drive => 3
            | some .clamp => 4,
            match (s.axes.get a).search with
            | .none => 0
            | .search => 1
            | .index => 2
            | .captured => 3])))

/-- O33. STATUS, READ QUEUE, READ PROBE, READ COMP, READ ZONES and CONFIG READ change nothing but their port's reply. (section 11.7 of
11_link_ports.md, section 2.10 of 02_program_queues.md, section 4.5 of 04_axis_positions_compensation_and_step_output.md, section
5.5 of 05_travel_limits_and_keep_out_zones.md, section 12.3 of 12_stored_configuration_and_start_up.md) Where the manual leaves a
point open it rests on the model's choice: notes/assumptions, entries 20 and 23. -/
def Obligations.ReadCommandsOnlyReply : Prop :=
  ∀ (p : Port) (s : State), Ready s p →
    (let bit := fun (f : Bool) (n : Nat) => if f then n else 0
      let lost := fun q : Port => decide ((s.ports.get q).state = .lost)
      let sp := s.spindle
      exec (.status p (frame [])) s =
        .next (onlyReply s p (
          [0, enc1 (bit (s.ports.get p).cut 1 + bit (s.ports.get p).eventsLost 2), enc1 (s.ports.get p).events.length,
            enc1 (bit (lost .link1) 1 + bit (lost .link2) 2 + bit (lost .link3) 4),
            match s.machine with
            | .start => 0
            | .estop => 1
            | .resetWait => 2
            | .run => 3,
            enc1 (bit s.holds.links.link1 1 + bit s.holds.links.link2 2 + bit s.holds.links.link3 4 + bit s.holds.panel 8),
            enc1 s.overrides.feed, enc1 s.overrides.rapid, enc1 s.overrides.spindle,
            enc1 (bit s.inputs.enabling 1 + bit s.inputs.panelHold 2 + bit s.inputs.probe 4 + bit s.inputs.chainClosed 8 +
              bit s.inputs.hydPressure 16 + bit s.inputs.coolantPressure 32 + bit s.inputs.lowLevel 64),
            match s.hyd.state with
            | .off => 0
            | .starting => 1
            | .up => 2
            | .lost => 3] ++
          [Axis.x, .y, .z, .w, .b].flatMap (fun a =>
            (match (s.clamps.get a).state with
              | .engaged => [0, enc1 (bit (s.clamps.get a).auto 128)]
              | .releaseWait => [1, enc1 (bit (s.clamps.get a).auto 128)]
              | .releasing => [2, enc1 (bit (s.clamps.get a).auto 128)]
              | .released => [3, enc1 (bit (s.clamps.get a).auto 128)]
              | .engaging => [4, enc1 (bit (s.clamps.get a).auto 128)]
              | .fault .releaseTimeout => [5, enc1 (1 + bit (s.clamps.get a).auto 128)]
              | .fault .engageTimeout => [5, enc1 (2 + bit (s.clamps.get a).auto 128)]
              | .fault .switch => [5, enc1 (3 + bit (s.clamps.get a).auto 128)])) ++
          (match sp.state with
            | .stopped => [0, 0]
            | .running => [1, 0]
            | .stopping => [2, 0]
            | .shifting _ _ => [3, 0]
            | .fault .stopTimeout => [4, 1]
            | .fault .shiftTimeout => [4, 2]
            | .fault .rangeLost => [4, 3]
            | .fault .drive => [4, 4]
            | .fault .hydraulic => [4, 5]) ++
          enc2 sp.speed ++ [if sp.dir = .cw then 0 else 1] ++ enc2 sp.effective ++
          [encRange sp.engaged] ++
          (match sp.state with
            | .shifting r .halt => [encRange (some r), 1]
            | .shifting r .hyd => [encRange (some r), 2]
            | .shifting r .cylA => [encRange (some r), 3]
            | .shifting r .cylB => [encRange (some r), 4]
            | _ => [0, 0]) ++
          enc2 sp.cmdCode ++ [encDrive sp.cmdDir] ++ enc2 sp.outCode ++ [encDrive sp.relay] ++
          [enc1 (bit sp.atSpeed 1 + bit sp.standstill 2 +
              (match sp.tach with
                | .count _ => 4
                | .period _ => 0)),
            enc1 ((if s.readA = some .one then 1 else if s.readA = some .two then 2 else 0) +
              (if s.readB = some .one then 16 else if s.readB = some .two then 32 else 0))] ++
          enc2 (min sp.measured 65535 : Nat) ++
          [match s.coolant.mode with
            | .off => 0
            | .flood => 1
            | .through => 2
            | .both => 3] ++
          (match s.coolant.flood with
            | .off => [0, 0]
            | .on => [1, 0]
            | .fault .primeTimeout => [2, 1]
            | .fault .pressureLost => [2, 2]
            | .fault .lowLevel => [2, 3]) ++
          (match s.coolant.through with
            | .off => [0, 0]
            | .waitSpindle => [1, 0]
            | .priming => [2, 0]
            | .on => [3, 0]
            | .fault .primeTimeout => [4, 1]
            | .fault .pressureLost => [4, 2]
            | .fault .lowLevel => [4, 3]) ++
          [Port.link1, .link2, .link3].map (fun q =>
            match (s.queues.get q).state with
            | .empty => 0
            | .running => 1
            | .stalled => 2
            | .stopping => 3) ++
          (match s.latch.owner with
            | none => [0, 255, 255]
            | some (q, tag) => enc1 (Port.code q) :: enc2 tag.toNat) ++
          [enc1 (bit s.store.defaults 1 + bit (decide (s.store.op ≠ .idle)) 2)]))) ∧
    (∀ q : Port,
      let held := [Axis.x, .y, .z, .w, .b].filter (fun a => s.hasClaim q (.axis a))
      let head : List Byte :=
        match (s.queues.get q).entries, (s.queues.get q).head with
        | [], _ => []
        | _ :: _, .starting none => [0, 0]
        | _ :: _, .starting (some w) =>
          [0, match w with
            | .run => 1
            | .hand => 2
            | .takeUp => 4
            | .clamps => 8
            | .hold => 16
            | .probeLatch => 32
            | .standing => 64]
        | e :: _, .executing =>
          match e.kind with
          | .dwell _ => 1 :: enc4 ((s.queues.get q).timer.getD 0 : Nat)
          | .wait _ _ =>
            1 :: match (s.queues.get q).timer with
              | none => [255, 255, 255, 255]
              | some ms => enc4 (ms : Nat)
          | _ => [1]
        | _ :: _, .failed c => [2, enc1 c.code]
      exec (.readQueue p (frame [enc1 (Port.code q)])) s =
        .next (onlyReply s p
          (0 :: enc1 (s.queues.get q).state.code :: enc1 (s.queues.get q).entries.length ::
            (s.queues.get q).entries.flatMap (fun e => enc2 e.tag.toNat ++ [enc1 e.kind.code]) ++ head ++
            enc1 held.length :: held.flatMap (fun a =>
              if (s.queues.get q).excludes a then [enc1 (Axis.code a + 128), 0, 0, 0, 0]
              else enc1 (Axis.code a) :: enc4 (((s.planned.get q).get a).getD (s.axes.get a).cmd))))) ∧
    exec (.readProbe p (frame [])) s =
      .next (onlyReply s p
        (0 :: encFlag (s.probes.get p).valid :: enc2 (s.probes.get p).tag.toNat ++
          (s.probes.get p).positions.toList.flatMap enc4)) ∧
    (∀ (a : Axis) (first count : Byte), 1 ≤ count.toNat → count.toNat ≤ 32 → first.toNat + count.toNat ≤ 64 →
      first.toNat ≤ 63 →
      exec (.readComp p (frame [enc1 (Axis.code a), first, count])) s =
        .next (onlyReply s p
          (0 :: encFlag (s.axes.get a).compEnabled :: encFlag (s.axes.get a).takeUp.isSome ::
            enc2 ((s.axes.get a).takeUp.getD (-1)) ++ enc2 (s.axes.get a).k ++ enc4 (s.config.axes.get a).compOrigin ++
            enc4 (s.config.axes.get a).compSpacing ++
            [enc1 (s.axes.get a).window.first, enc1 (s.axes.get a).window.last, encPointer (s.axes.get a).window.pointer,
              enc1 (s.axes.get a).window.method.code, count] ++
            (((s.config.comp.get a).drop first.toNat).take count.toNat).flatMap enc2))) ∧
    (let slot := fun o : Option Slot =>
        match o with
        | none => [0]
        | some t =>
          enc1 (128 + (if t.pinned then 64 else 0) + (if s.evaluated t.zone then 32 else 0) +
              encBits ([Axis.x, .y, .z, .w, .b].map (fun a => (PerAxis.get t.zone a).isSome))) ::
            [Axis.x, .y, .z, .w, .b].flatMap (fun a =>
              match PerAxis.get t.zone a with
              | none => []
              | some i => enc4 i.lo ++ enc4 i.hi)
     ((s.zones.flatMap slot).length ≤ 253 →
       exec (.readZones p (frame [])) s =
         .next (onlyReply s p (0 :: enc1 s.config.pinned.length :: s.zones.flatMap slot))) ∧
     ∀ n, n < s.zones.length → ((s.zones.take n).flatMap slot).length ≤ 253 →
       253 < ((s.zones.take (n + 1)).flatMap slot).length →
       exec (.readZones p (frame [])) s =
         .next (onlyReply s p (0 :: enc1 (s.config.pinned.length + 128) :: (s.zones.take n).flatMap slot))) ∧
    (∀ ids : List (Byte × Byte × Param), 1 ≤ ids.length → ids.length ≤ 20 →
      (∀ x ∈ ids, Param.ofId x.1.toNat x.2.1.toNat = some x.2.2) →
      exec (.configRead p (frame (ids.flatMap (fun x => [x.1, x.2.1])))) s =
        .next (onlyReply s p
          (0 :: enc1 ids.length :: ids.flatMap (fun x => x.1 :: x.2.1 :: enc4 (s.config.get x.2.2))))) ∧
    (∀ ids : List (Byte × Byte), 1 ≤ ids.length → ids.length ≤ 60 →
      20 < ids.length ∨ (∃ x ∈ ids, Param.ofId x.1.toNat x.2.toNat = none) →
      exec (.configRead p (frame (ids.flatMap (fun x => [x.1, x.2])))) s = .next (onlyReply s p [6])) ∧
    (∀ bs : List Byte, bs.length ≤ 120 → bs.length % 2 = 1 →
      exec (.configRead p (frame bs)) s = .next (onlyReply s p [6]))

/-- O34. READ EVENTS and REJOIN: the oldest eight records leave, and a lost port is ACTIVE again. (section 11.4 of 11_link_ports.md,
section 11.6 of 11_link_ports.md) Where the manual leaves a point open it rests on the model's choice: notes/assumptions, entry
40. -/
def Obligations.ReadEventsTakesTheOldest : Prop :=
  ∀ (p : Port) (s : State), Listening s p → s.machine ≠ .start →
    exec (.readEvents p (frame [])) s =
      .next (onlyReply
        (s.updPort p (fun l => { l with events := l.events.drop 8, eventsLost := false })) p
        (0 :: encFlag (s.ports.get p).eventsLost :: enc1 (min 8 (s.ports.get p).events.length) ::
          enc1 ((s.ports.get p).events.length - 8) :: ((s.ports.get p).events.take 8).flatMap Event.encode)) ∧
    exec (.rejoin p (frame [])) s = .next (onlyReply (s.updPort p (fun l => { l with state := .active })) p [0])

/-- O35. MACHINE RESET: latched faults are cleared and RESET_WAIT becomes RUN. (section 10.2 of
10_machine_state_emergency_stop_and_feed_hold.md, section 7.7 of 07_hydraulic_unit_and_axis_clamps.md, section 10.1 of
10_machine_state_emergency_stop_and_feed_hold.md) Where the manual leaves a point open it rests on the model's choice:
notes/assumptions, entries 24 and 27. -/
def Obligations.MachineResetStartsTheMachine : Prop :=
  ∀ (p : Port) (s : State), Ready s p →
    (s.machine = .estop → exec (.machineReset p (frame [])) s = .next (onlyReply s p [13])) ∧
    (s.machine = .resetWait ∨ s.machine = .run →
      let clampStays := fun a => (s.clamps.get a).state.isFault && !s.agreeEngaged a
      let axisStays := fun a =>
        (s.axes.get a).fault.isSome && (!s.inputs.driveReady.get a || s.recentIllegal a || clampStays a)
      let spindleStays := s.spindle.state.isFault && !s.inputs.spindleReady
      Replies (.machineReset p (frame [])) s p
        [0, 3, encAxisSet axisStays, encAxisSet clampStays,
          enc1 ((if spindleStays then 2 else 0) + (if s.coolant.flood.isFault && s.inputs.lowLevel then 4 else 0) +
            (if s.coolant.through.isFault && s.inputs.lowLevel then 8 else 0))] (fun t =>
        t.machine = .run ∧ (∀ a, axisStays a = true → (t.axes.get a).fault = (s.axes.get a).fault) ∧
        (∀ a, clampStays a = true → (t.clamps.get a).state = (s.clamps.get a).state) ∧
        (∀ a, (s.clamps.get a).state.isFault = true → s.agreeEngaged a = true →
          (t.clamps.get a).state.isFault = false ∧
            (Quiet s → t.clamps.get a = { state := .engaged, valve := false, auto := false, timer := none })) ∧
        (spindleStays = true → t.spindle.state = s.spindle.state) ∧
        (s.machine = .resetWait → ∀ q, Raised s t q (.machineState .run)) ∧
        (s.machine = .run → ∀ q m more, (t.ports.get q).events = (s.ports.get q).events ++ more → .machineState m ∉ more) ∧
        (Quiet s → s.inputs.lowLevel = true → t.coolant = s.coolant) ∧ (s.hyd.state = .lost → t.hyd.state ≠ .lost) ∧
        (∀ a, (s.axes.get a).fault = none → AxisKept (s.axes.get a) (t.axes.get a) ∧ (t.axes.get a).fault = none) ∧
        (∀ a, (s.axes.get a).fault ≠ none → s.inputs.driveReady.get a = true → s.recentIllegal a = false →
          (s.clamps.get a).state.isFault = false ∨ s.agreeEngaged a = true →
          (t.axes.get a).fault = none ∧ (t.axes.get a).out = (s.axes.get a).meas ∧ (t.axes.get a).backlog = 0 ∧
            (t.axes.get a).cmd = (s.axes.get a).meas -
              (if (s.axes.get a).compEnabled then s.comp a (s.axes.get a).cmd else 0)) ∧
        (Quiet s → s.spindle.state.isFault = true → s.inputs.spindleReady = true → t.spindle.state = .stopped) ∧
        (Quiet s → s.coolant.flood.isFault = true ∨ s.coolant.through.isFault = true → s.inputs.lowLevel = false →
          t.coolant.mode = .off ∧ t.coolant.flood = .off ∧ t.coolant.through = .off) ∧
        t.inputs = s.inputs ∧ t.holds = s.holds ∧ t.overrides = s.overrides ∧ t.config = s.config ∧ t.zones = s.zones ∧
        t.probes = s.probes ∧ t.serial = s.serial ∧ (∀ r, s.orphanedFrom r = none → t.row r = s.row r)))

/-- O36. HOLD, RELEASE HOLD and SET OVERRIDE: the hold set and the three overrides. (section 10.3 of
10_machine_state_emergency_stop_and_feed_hold.md, section 10.4 of 10_machine_state_emergency_stop_and_feed_hold.md) -/
def Obligations.HoldOverrideAndTheirReplies : Prop :=
  ∀ (p : Port) (s : State), Ready s p →
    let within := { s.holds with links := s.holds.links.set p true }
    let without := { s.holds with links := s.holds.links.set p false }
    (s.holds.links.get p = false →
      Replies (.hold p (frame [])) s p [0, encHolds within] (fun t =>
        Follows { s with holds := within } t ∧ ∀ a, (t.hands.get a).pending = 0) ∧
      exec (.releaseHold p (frame [])) s = .next (onlyReply s p [0, encHolds s.holds])) ∧
    (s.holds.links.get p = true →
      exec (.hold p (frame [])) s = .next (onlyReply s p [0, encHolds s.holds]) ∧
      Replies (.releaseHold p (frame [])) s p [0, encHolds without] (fun t => Follows { s with holds := without } t)) ∧
    ∀ f r v : Byte,
      let o : Overrides := { feed := min f.toNat 150, rapid := min r.toNat 100, spindle := max 50 (min v.toNat 120) }
      let now : State := { s with overrides := o }
      Replies (.setOverride p (frame [f, r, v])) s p [0, enc1 o.feed, enc1 o.rapid, enc1 o.spindle] (fun t =>
        Follows now t ∧
        ∀ g, Quiet s → s.spindle.state = .running → s.spindle.engaged = some g →
          t.spindle.effective = now.effectiveSpeed g s.spindle.speed ∧
            t.spindle.cmdCode = s.config.driveCode g (now.effectiveSpeed g s.spindle.speed))

/-- O37. CLAIM: NOWAIT grants all or nothing, WAIT grants the free and joins the taken. (section 1.3 of 01_resources_and_claims.md)
Where the manual leaves a point open it rests on the model's choice: notes/assumptions, entry 20. -/
def Obligations.ClaimGrantsOrBlocks : Prop :=
  ∀ (p : Port) (s : State) (set mode : Byte), Ready s p →
    (decResourceSet set = none ∨ set = 0 ∨ 1 < mode.toNat →
      exec (.claim p (frame [set, mode])) s = .next (onlyReply s p [6])) ∧
    ∀ rs, decResourceSet set = some rs → set ≠ 0 →
      (mode = 0 → (∀ r ∈ rs, s.isTaken p r = false) →
        Replies (.claim p (frame [set, mode])) s p [0, set, 0] (fun t =>
          Follows { s with claims := t.claims } t ∧
          (∀ r ∈ rs, t.row r = { state := .held p, waiting := (s.row r).waiting }) ∧
          (∀ r, r ∉ rs → s.orphanedFrom r = none → t.row r = s.row r))) ∧
      (mode = 0 → (∃ r ∈ rs, s.isTaken p r = true) →
        exec (.claim p (frame [set, mode])) s =
          .next (onlyReply s p [2, requestSet rs (s.hasClaim p), requestSet rs (s.isTaken p)])) ∧
      (mode = 1 → (∃ r ∈ rs, s.listFull p r = true) → exec (.claim p (frame [set, mode])) s = .next (onlyReply s p [5])) ∧
      (mode = 1 → (∀ r ∈ rs, s.listFull p r = false) →
        Replies (.claim p (frame [set, mode])) s p
          [if rs.any (s.isTaken p) then 1 else 0, requestSet rs (fun r => !s.isTaken p r),
            requestSet rs (fun r => s.isTaken p r || (s.row r).waiting.contains p)] (fun t =>
          Follows { s with claims := t.claims } t ∧
          (∀ r ∈ rs, s.isTaken p r = false → t.row r = { state := .held p, waiting := (s.row r).waiting }) ∧
          (∀ r ∈ rs, s.isTaken p r = true → s.orphanedFrom r = none →
            t.row r =
              { s.row r with
                waiting := if p ∈ (s.row r).waiting then (s.row r).waiting else (s.row r).waiting ++ [p] }) ∧
          (∀ r ∈ rs, s.orphanedFrom r ≠ none →
            let joined : ClaimRow :=
              { s.row r with
                waiting := if p ∈ (s.row r).waiting then (s.row r).waiting else (s.row r).waiting ++ [p] }
            t.row r = joined ∨ t.row r = passed joined) ∧
          (∀ r, r ∉ rs → s.orphanedFrom r = none → t.row r = s.row r)))

/-- O38. RELEASE: refused whole while busy, otherwise every row is passed on with CLAIM GRANTED and its clamp engaged. (section 1.4 of
01_resources_and_claims.md) -/
def Obligations.ReleasePassesOn : Prop :=
  ∀ (p : Port) (s : State) (set : Byte) (rs : List Resource), Ready s p → ClaimLaw s → decResourceSet set = some rs → set ≠ 0 →
    let busy := fun r : Resource =>
      (s.queues.get p).names r = true ∨
        (∃ a, r = .axis a ∧ ((s.hands.get a).pending ≠ 0 ∨ (s.axes.get a).takeUp ≠ none)) ∨
        (r = .spindle ∧ s.spindle.state ≠ .stopped) ∨ (r = .coolant ∧ s.coolant.mode ≠ .off)
    ((∃ r ∈ rs, s.hasClaim p r = true ∧ busy r) → exec (.release p (frame [set])) s = .next (onlyReply s p [4])) ∧
    ((∀ r ∈ rs, s.hasClaim p r = true → ¬ busy r) →
      Replies (.release p (frame [set])) s p
        [0, requestSet rs (s.hasClaim p), requestSet rs (fun r => (s.row r).waiting.contains p)] (fun t =>
        Follows { s with claims := t.claims } t ∧
        (∀ r ∈ rs, s.hasClaim p r = true →
          ((s.row r).waiting = [] → t.row r = { state := .free, waiting := [] }) ∧
          ∀ q more, (s.row r).waiting = q :: more →
            t.row r = { state := .held q, waiting := more } ∧ Noted s t q (.claimGranted r)) ∧
        (Quiet s → ∀ a, .axis a ∈ rs → s.hasClaim p (.axis a) = true →
          ((s.clamps.get a).state.demands = true →
            ((t.clamps.get a).state = .engaging ∨ (t.clamps.get a).state = .engaged) ∧ (t.clamps.get a).valve = false ∧
              (t.clamps.get a).auto = false) ∧
          (t.planned.get p).get a = none ∧
          ∀ q more, (s.row (.axis a)).waiting = q :: more → (t.planned.get q).get a = some (s.axes.get a).cmd) ∧
        (∀ r ∈ rs, s.hasClaim p r = false → s.orphanedFrom r = none →
          t.row r = { s.row r with waiting := (s.row r).waiting.filter (fun q => decide (q ≠ p)) }) ∧
        (∀ r, r ∉ rs → s.orphanedFrom r = none → t.row r = s.row r)))

/-- O39. HAND OVER: the checks in order, then the row passes to the target port. (section 1.5 of 01_resources_and_claims.md) -/
def Obligations.HandOverMovesTheClaim : Prop :=
  ∀ (p q : Port) (r : Resource) (s : State), Ready s p →
    let row := exec (.handOver p (frame [enc1 (Resource.code r), enc1 (Port.code q)])) s
    (q = p → row = .next (onlyReply s p [6])) ∧
    (q ≠ p →
      (s.hasClaim p r = false → row = .next (onlyReply s p [3])) ∧
      (s.hasClaim p r = true →
        ((s.ports.get q).state = .lost → row = .next (onlyReply s p [13])) ∧
        ((s.ports.get q).state = .active →
          ((s.queues.get p).names r = true → row = .next (onlyReply s p [4])) ∧
          ((s.queues.get p).names r = false →
            Replies (.handOver p (frame [enc1 (Resource.code r), enc1 (Port.code q)])) s p [0] (fun t =>
              Follows { s with claims := t.claims } t ∧
              t.row r = { state := .held q, waiting := (s.row r).waiting.filter (fun w => decide (w ≠ q)) } ∧
              Raised s t q (.claimGranted r) ∧
              (∀ a, r = .axis a → (t.hands.get a).pending = 0) ∧
              ∀ o, o ≠ r → s.orphanedFrom o = none → t.row o = s.row o))))) ∧
    ∀ rc pc : Byte, 6 < rc.toNat ∨ pc = 0 ∨ 3 < pc.toNat →
      exec (.handOver p (frame [rc, pc])) s = .next (onlyReply s p [6])

/-- O40. QUEUE ENTRY: the checks in order, then the entry joins the tail; into an EMPTY queue it is judged at once. (section 2.2 of
02_program_queues.md, section 2.3 of 02_program_queues.md, section 2.5 of 02_program_queues.md, section 2.6 of
02_program_queues.md) Where the manual leaves a point open it rests on the model's choice: notes/assumptions, entry 19. -/
def Obligations.QueueEntryIsJudgedAndAppended : Prop :=
  ∀ (p : Port) (s : State) (bs : List Byte), Ready s p → 4 ≤ bs.length → bs.length ≤ 38 →
    let q := s.queues.get p
    let row := exec (.queueEntry p (frame bs)) s
    (s.machine ≠ .run → row = .next (onlyReply s p [8])) ∧
    (s.machine = .run → q.state = .stopping ∨ 16 ≤ q.entries.length → row = .next (onlyReply s p [5])) ∧
    (s.machine = .run → q.state ≠ .stopping → q.entries.length < 16 →
      (decEntry bs = none → row = .next (onlyReply s p [6])) ∧
      ∀ e, decEntry bs = some e →
        ((∃ r ∈ e.kind.names, s.hasClaim p r = false) → row = .next (onlyReply s p [3])) ∧
        ((∀ r ∈ e.kind.names, s.hasClaim p r = true) →
          (∀ c, s.entryMotionCheck p e.kind = some c → row = .next (onlyReply s p [enc1 c.code])) ∧
          (s.entryMotionCheck p e.kind = none →
            Replies (.queueEntry p (frame bs)) s p [0, enc1 (q.entries.length + 1)] (fun t =>
              Follows s t ∧
              (q.state = .stalled ∨ q.state = .running ∧ q.moving = true ∨
                  q.state = .running ∧ q.head = .executing ∧ (∃ d ds n, q.entries = d :: ds ∧ d.kind = .dwell n) →
                (∀ m, s.moves.get p = some m → ∀ j ∈ m.axes, (s.axes.get j.axis).fault = none) →
                t.queues.get p = { q with entries := q.entries ++ [e] } ∧ t.moves.get p = s.moves.get p ∧
                ∀ a, s.orphanedFrom (.axis a) = none →
                  (t.planned.get p).get a = ((s.planned.get p).get a).map (· + (pairDelta e.kind.pairs a).getD 0)) ∧
              (∀ n, q.entries = [] → s.moves.get p = none → e.kind = .dwell n →
                t.queues.get p = { entries := [e], head := .executing, stop := .running, timer := some n }) ∧
              (q.entries = [] → s.moves.get p = none → e.kind.isMotion = true → s.judgeMotion p e.kind = .passes →
                (∀ o, o ≠ p → (s.queues.get o).entries = [] ∨ (s.queues.get o).moving = true) →
                (∀ a, (s.axes.get a).fault = none) →
                t.queues.get p = { entries := [e], head := .executing, stop := .running, timer := none } ∧
                  t.moves.get p = some (s.moveOf e)) ∧
              (q.entries = [] → s.moves.get p = none → e.kind.isMotion = true →
                (∀ o, o ≠ p → (s.queues.get o).entries = [] ∨ (s.queues.get o).moving = true) →
                (∀ o m, s.moves.get o = some m → ∀ j ∈ m.axes, (s.axes.get j.axis).fault = none) →
                (∀ a, (s.clamps.get a).state = .engaged ∧ s.agreeReleased a = false ∨ (s.clamps.get a).state = .released ∨
                  (s.clamps.get a).state.isFault = true) →
                (∀ c, s.judgeMotion p e.kind = .fails c →
                  t.queues.get p = { entries := [e], head := .failed c, stop := .running, timer := none } ∧
                    t.moves.get p = none ∧ Noted s t p (.entryFailed e.tag c)) ∧
                (∀ w, s.judgeMotion p e.kind = .waits w →
                  t.queues.get p = { entries := [e], head := .starting (some w), stop := .running, timer := none } ∧
                    t.moves.get p = none) ∧
                (s.judgeMotion p e.kind = .waits .clamps → ∀ a ∈ e.kind.moveAxes, (s.clamps.get a).state = .engaged →
                  (s.hyd.state = .up →
                    t.clamps.get a =
                      { state := .releasing, valve := true, auto := true
                        timer := some (s.config.axes.get a).clampReleaseLimit.toNat }) ∧
                  (s.hyd.state = .off → s.inputs.hydPressure = false → s.demand = false →
                    t.clamps.get a = { state := .releaseWait, valve := false, auto := true, timer := none } ∧
                      t.hyd.state = .starting ∧ t.hyd.pump = true)))))))

/-- O41. FLUSH and CONTINUE: entries removed, an executing move stopped, a stall ended. (section 2.8 of 02_program_queues.md) -/
def Obligations.FlushAndContinue : Prop :=
  ∀ (p : Port) (s : State), Ready s p →
    let q := s.queues.get p
    (q.state = .empty → exec (.flush p (frame [])) s = .next (onlyReply s p [0, 0, 0])) ∧
    (q.state = .stopping → exec (.flush p (frame [])) s = .next (onlyReply s p [0, 0, 1])) ∧
    (q.state = .stalled ∨ q.state = .running ∧ q.moving = false →
      Replies (.flush p (frame [])) s p [0, enc1 q.entries.length, 0] (fun t =>
        Follows s t ∧ (t.queues.get p).entries = [] ∧ Raised s t p (.queueFlushed q.entries.length))) ∧
    (∀ m, q.state = .running → q.moving = true → s.moves.get p = some m → (∀ j ∈ m.axes, (s.axes.get j.axis).fault = none) →
      Replies (.flush p (frame [])) s p [0, enc1 (q.entries.length - 1), 1] (fun t =>
        Follows s t ∧ t.queues.get p = { q with entries := q.entries.take 1, stop := .flushed } ∧
        t.moves.get p = some { m with stop := true } ∧
        (1 < q.entries.length → Raised s t p (.queueFlushed (q.entries.length - 1))))) ∧
    (q.state = .stalled →
      Replies (.continueQueue p (frame [])) s p [0] (fun t =>
        Follows s t ∧ (t.queues.get p).entries <:+ q.entries.tail)) ∧
    (q.state ≠ .stalled → exec (.continueQueue p (frame [])) s = .next (onlyReply s p [13]))

/-- O42. PRESET: the checks in order, then T takes the value and O and M move with it. (section 4.6 of
04_axis_positions_compensation_and_step_output.md) -/
def Obligations.PresetMovesTheCoordinates : Prop :=
  ∀ (p : Port) (a : Axis) (v3 v2 v1 v0 : Byte) (s : State), Ready s p →
    let v := s32 v3 v2 v1 v0
    let u := s.axes.get a
    let i : Instr := .preset p (frame [enc1 (Axis.code a), v3, v2, v1, v0])
    let refusal : Option ResultCode :=
      if s.hasClaim p (.axis a) = false then some .notHeld
      else if s.machine ≠ .run ∧ s.machine ≠ .resetWait then some .notReady
      else if u.fault ≠ none ∨ u.compEnabled = true then some .state
      else if s.standing a = false ∨ (s.queues.get p).names (.axis a) = true then some .busy
      else s.presetTest a v
    (v < -1000000000 ∨ 1000000000 < v → exec i s = .next (onlyReply s p [6])) ∧
    (-1000000000 ≤ v → v ≤ 1000000000 →
      (∀ c, refusal = some c → exec i s = .next (onlyReply s p [enc1 c.code])) ∧
      (refusal = none →
        Replies i s p [0] (fun t =>
          Follows
            { s with
              axes := s.axes.set a { u with cmd := v, out := u.out + (v - u.cmd), meas := u.meas + (v - u.cmd) } } t ∧
          (Quiet s →
            (t.axes.get a).referenced = true ∧
              (t.planned.get p).get a = ((s.planned.get p).get a).map (· + (v - u.cmd)))))) ∧
    ∀ ax : Byte, 4 < ax.toNat → exec (.preset p (frame [ax, v3, v2, v1, v0])) s = .next (onlyReply s p [6])

/-- O43. COMP WINDOW and COMP DATA: the write window and the values it takes. (section 4.5 of
04_axis_positions_compensation_and_step_output.md) -/
def Obligations.CompensationWindowAndData : Prop :=
  ∀ (p : Port) (a : Axis) (s : State), Ready s p →
    let u := s.axes.get a
    let ready := s.hasClaim p (.axis a) = true ∧ u.compEnabled = false
    let set := fun w : CompWindow => ({ s with axes := s.axes.set a { u with window := w } } : State)
    (∀ (first last : Byte) (m : WindowMethod),
      let i : Instr := .compWindow p (frame [enc1 (Axis.code a), first, last, enc1 m.code])
      (last.toNat < first.toNat ∨ 63 < last.toNat → exec i s = .next (onlyReply s p [6])) ∧
      (first.toNat ≤ last.toNat → last.toNat ≤ 63 →
        (s.hasClaim p (.axis a) = false → exec i s = .next (onlyReply s p [3])) ∧
        (s.hasClaim p (.axis a) = true → u.compEnabled = true → exec i s = .next (onlyReply s p [13])) ∧
        (ready → Replies i s p [0] (fun t =>
          Follows (set { first := first.toNat, last := last.toNat, pointer := some first.toNat, method := m }) t)))) ∧
    (∀ hi lo : Byte,
        let i : Instr := .compData p (frame [enc1 (Axis.code a), hi, lo])
        (ready → u.window.pointer = none →
          Replies i s p [0, 0, 1, 255] (fun t => Follows s t)) ∧
        ∀ k, ready → u.window.pointer = some k →
          let next := if k < u.window.last then some (k + 1) else if u.window.method = .wrap then some u.window.first else none
          Replies i s p [0, 1, 0, encPointer next] (fun t =>
            Follows
              { set { u.window with pointer := next } with
                config :=
                  { s.config with
                    comp := s.config.comp.set a ((s.config.comp.get a).set k (max (-1000) (min (s16 hi lo) 1000))) } } t)) ∧
    (∀ vals : List Byte, vals.length ≤ 119 → vals.length % 2 = 0 →
      let i : Instr := .compData p (frame (enc1 (Axis.code a) :: vals))
      let w := writeValues (s.config.comp.get a) u.window (decValues vals)
      (s.hasClaim p (.axis a) = false → exec i s = .next (onlyReply s p [3])) ∧
      (s.hasClaim p (.axis a) = true → u.compEnabled = true → exec i s = .next (onlyReply s p [13])) ∧
      (ready → Replies i s p [0, enc1 w.2.2, enc1 ((decValues vals).length - w.2.2), encPointer w.2.1.pointer] (fun t =>
        Follows { set w.2.1 with config := { s.config with comp := s.config.comp.set a w.1 } } t))) ∧
    (∀ (hi lo : Byte) (rest : List Byte), decValues (hi :: lo :: rest) = s16 hi lo :: decValues rest) ∧
    ∀ (table : List Int) (w : CompWindow) (v : Int) (vs : List Int),
      writeValues table w [] = (table, w, 0) ∧ (w.pointer = none → writeValues table w (v :: vs) = (table, w, 0)) ∧
      ∀ k, w.pointer = some k →
        let next := if k < w.last then some (k + 1) else if w.method = .wrap then some w.first else none
        let r := writeValues (table.set k (max (-1000) (min v 1000))) { w with pointer := next } vs
        writeValues table w (v :: vs) = (r.1, r.2.1, r.2.2 + 1)

/-- O44. COMP ENABLE and COMP DISABLE: the checks in order, then a take-up toward the new k, and how its periods move O. (section 4.5
of 04_axis_positions_compensation_and_step_output.md) Where the manual leaves a point open it rests on the model's choice:
notes/assumptions, entries 3, 15 and 20. -/
def Obligations.CompensationIsTakenUp : Prop :=
  (∀ (p : Port) (a : Axis) (enable : Bool) (s : State), Ready s p →
      let u := s.axes.get a
      let i : Instr :=
        if enable then .compEnable p (frame [enc1 (Axis.code a)]) else .compDisable p (frame [enc1 (Axis.code a)])
      let target := if enable then s.comp a u.cmd else 0
      let refusal : Option (List Byte) :=
        if s.hasClaim p (.axis a) = false then some [3]
        else if s.machine ≠ .run then some [8]
        else if u.compEnabled = enable then some [0, 255, 255]
        else if enable = true ∧ u.referenced = false then some [12]
        else if u.fault ≠ none then some [13]
        else if s.standing a = false then some [4]
        else if (s.clamps.get a).state ≠ .released then some [11]
        else none
      (∀ c, refusal = some c → exec i s = .next (onlyReply s p c)) ∧
      (refusal = none →
        Replies i s p (0 :: enc2 target) (fun t =>
          Follows { s with axes := s.axes.set a { u with compEnabled := enable } } t ∧
          (t.axes.get a).takeUp = (if target = u.k then none else some target)))) ∧
  (∀ (a : Axis) (k : Int) (s : State), (s.axes.get a).takeUp = some k → s.moveOn a = false → (s.hands.get a).pending = 0 →
      s.followUp a = false → s.followingExceeded a = false →
      let u := s.axes.get a
      let left := u.cmd + k - u.out
      let rate := (s.config.axes.get a).handRate
      let out := u.out + max (-rate) (min left rate)
      ∃ t, exec .motionPeriod s = .next t ∧ (t.axes.get a).cmd = u.cmd ∧ (t.axes.get a).out = out ∧ (t.axes.get a).meas = u.meas ∧
        (t.axes.get a).compEnabled = u.compEnabled ∧ (t.axes.get a).takeUp = (if out = u.cmd + k then none else some k))

/-- O45. ZONE SET, ZONE CLEAR and ZONE PURGE: the slots of the zone table. (section 5.3 of 05_travel_limits_and_keep_out_zones.md,
section 5.5 of 05_travel_limits_and_keep_out_zones.md) -/
def Obligations.ZonesAreSetClearedAndPurged : Prop :=
  ∀ (p : Port) (s : State), Ready s p →
    (∀ (mask : Byte) (pinned : Bool) (bs : List Byte) (z : Zone), 8 ≤ bs.length → bs.length ≤ 40 → decZone mask bs = some z →
      let i : Instr := .zoneSet p (frame (mask :: encFlag pinned :: bs))
      let full := pinned = true ∧ 8 ≤ s.config.pinned.length
      (pinned = true ∧ s.hasAllClaims p = false → exec i s = .next (onlyReply s p [3])) ∧
      (pinned = false ∨ s.hasAllClaims p = true →
        (s.evaluated z = true ∧
            (pointInside s.positions z = true ∨ ∃ box ∈ s.executingBoxes, boxMeets box z = true) →
          exec i s = .next (onlyReply s p [13])) ∧
        (s.evaluated z = false ∨
            (pointInside s.positions z = false ∧ ∀ box ∈ s.executingBoxes, boxMeets box z = false) →
          (full ∨ none ∉ s.zones → exec i s = .next (onlyReply s p [5])) ∧
          ∀ n, ¬ full → s.zones[n]? = some none → none ∉ s.zones.take n →
            Replies i s p [0, enc1 n] (fun t =>
              Follows
                { s with
                  zones := s.zones.set n (some { pinned := pinned, zone := z })
                  config := { s.config with pinned := if pinned then s.config.pinned ++ [z] else s.config.pinned } } t)))) ∧
    (∀ n : Byte,
      let i : Instr := .zoneClear p (frame [n])
      let slot := (s.zones[n.toNat]?).getD none
      (15 < n.toNat → exec i s = .next (onlyReply s p [6])) ∧
      (n.toNat ≤ 15 →
        (slot = none → exec i s = .next (onlyReply s p [0, 0])) ∧
        ∀ o, slot = some o →
          (o.pinned = true → exec i s = .next (onlyReply s p [13])) ∧
          (o.pinned = false → Replies i s p [0, 1] (fun t => Follows { s with zones := s.zones.set n.toNat none } t)))) ∧
    ∀ (mask : Byte) (bs : List Byte) (box : Zone), 8 ≤ bs.length → bs.length ≤ 40 → decZone mask bs = some box →
      let goes := fun o : Option Slot =>
        match o with
        | none => false
        | some t => !t.pinned && Axis.all.all (fun a =>
            match PerAxis.get box a, PerAxis.get t.zone a with
            | some i, some j => decide (i.lo ≤ j.hi ∧ j.lo ≤ i.hi)
            | _, _ => true)
      Replies (.zonePurge p (frame (mask :: bs))) s p [0, enc1 (s.zones.countP goes)] (fun t =>
        Follows { s with zones := s.zones.map (fun o => if goes o then none else o) } t)

/-- O46. HANDWHEEL: the checks in order, then the pending distance grows within its bound; each period moves at most HAND_RATE.
(section 6.2 of 06_handwheel_jogging.md, section 6.3 of 06_handwheel_jogging.md, section 6.4 of 06_handwheel_jogging.md) Where the
manual leaves a point open it rests on the model's choice: notes/assumptions, entries 3 and 15. -/
def Obligations.HandwheelOffersADistance : Prop :=
  (∀ (p : Port) (a : Axis) (c1 c0 : Byte) (mult : Nat) (s : State), Ready s p → mult ≤ 2 →
      let i : Instr := .handwheel p (frame [enc1 (Axis.code a), c1, c0, enc1 mult])
      let clamp := (s.clamps.get a).state
      let was := (s.hands.get a).pending
      let bound := (s.config.axes.get a).handRate * 250
      let now := max (-bound) (min (was + s16 c1 c0 * 10 ^ mult) bound)
      let refusal : Option Byte :=
        if s.hasClaim p (.axis a) = false then some 3
        else if s.machine ≠ .run then some 8
        else if s.inputs.enabling = false ∨ s.holds.isEmpty = false ∨ (s.axes.get a).fault ≠ none then some 13
        else if (s.queues.get p).names (.axis a) = true ∨ (s.axes.get a).takeUp ≠ none then some 4
        else if clamp.isFault = true then some 11
        else if (clamp = .engaged ∨ clamp = .engaging) ∧ s.hyd.state = .lost then some 14
        else none
      (∀ c, refusal = some c → exec i s = .next (onlyReply s p [c])) ∧
      (refusal = none →
        Replies i s p (0 :: enc4 (now - was) ++ enc4 now) (fun t =>
          Follows s t ∧
          (Quiet s →
            (t.hands.get a).pending = now ∧
              (clamp = .engaged ∨ clamp = .engaging → now ≠ 0 →
                (t.clamps.get a).state.demands = true ∧ (t.clamps.get a).auto = true ∧ (t.hands.get a).handReleased = true))))) ∧
  (∀ (a : Axis) (s : State), s.machine = .run → (s.hands.get a).pending ≠ 0 → (∀ c, c ≠ a → (s.hands.get c).pending = 0) →
      (∀ p, s.moves.get p = none) → (∀ c, (s.axes.get c).fault = none) → (∀ c, s.followingExceeded c = false) →
      let u := s.axes.get a
      let pending := (s.hands.get a).pending
      let rate := (s.config.axes.get a).handRate
      let step := max (-rate) (min pending rate)
      let target := u.cmd + step
      let allowed := if u.referenced then s.allowedPosition a target else target
      beyondBound u.cmd allowed = false →
      ∃ t, exec .motionPeriod s = .next t ∧ (∀ c, c ≠ a → (t.axes.get c).cmd = (s.axes.get c).cmd) ∧
        ((s.clamps.get a).state ≠ .released → (t.axes.get a).cmd = u.cmd) ∧
        ((s.clamps.get a).state = .released → allowed = target →
          (t.axes.get a).cmd = target ∧ (t.hands.get a).pending = pending - step) ∧
        ((s.clamps.get a).state = .released → allowed ≠ target →
          (t.axes.get a).cmd = allowed ∧ (t.hands.get a).pending = 0 ∧ RaisedHolder s t (.axis a) (.handLimited a)))

/-- O47. CLAMP: the checks in order, then direct requests to the clamps named. (section 7.6 of 07_hydraulic_unit_and_axis_clamps.md) -/
def Obligations.ClampCommandsAreTaken : Prop :=
  ∀ (p : Port) (as : List Axis) (set : Byte) (release : Bool) (s : State), Ready s p → decAxisSet set = some as → set ≠ 0 →
    let i : Instr := .clamp p (frame [set, encFlag release])
    let shut := fun a => (s.clamps.get a).state = .engaged ∨ (s.clamps.get a).state = .engaging
    let refused := fun c : Byte => exec i s = .next (onlyReply s p [c])
    ((∃ a ∈ as, s.hasClaim p (.axis a) = false) → refused 3) ∧
    ((∀ a ∈ as, s.hasClaim p (.axis a) = true) →
      (release = true ∧ s.machine ≠ .run → refused 8) ∧
      (release = false ∨ s.machine = .run →
        ((∃ a ∈ as, (s.clamps.get a).state.isFault = true) → refused 11) ∧
        ((∀ a ∈ as, (s.clamps.get a).state.isFault = false) →
          (release = false →
            ((∃ a ∈ as, s.standing a = false ∨ (s.queues.get p).names (.axis a) = true) → refused 4) ∧
            ((∀ a ∈ as, s.standing a = true ∧ (s.queues.get p).names (.axis a) = false) →
              Replies i s p [0] (fun t =>
                Follows s t ∧
                (Quiet s → ∀ a ∈ as,
                  (t.clamps.get a).auto = false ∧
                    ((s.clamps.get a).state.demands = true → (t.clamps.get a).valve = false) ∧
                    ((t.clamps.get a).state = .engaging ∨ (t.clamps.get a).state = .engaged))))) ∧
          (release = true →
            (s.hyd.state = .lost ∧ (∃ a ∈ as, shut a) → refused 14) ∧
            (s.hyd.state ≠ .lost ∨ (∀ a ∈ as, ¬ shut a) →
              Replies i s p [0] (fun t =>
                Follows s t ∧
                (Quiet s → ∀ a ∈ as,
                  (t.clamps.get a).auto = false ∧ (t.clamps.get a).state.demands = true)))))))

/-- O48. SPINDLE: the checks in order, then the target is recorded and the unit runs, stops or shifts; the output's ramp and relays.
(section 8.2 of 08_spindle_and_gearbox.md, section 8.4 of 08_spindle_and_gearbox.md, section 8.5 of 08_spindle_and_gearbox.md,
section 8.3 of 08_spindle_and_gearbox.md) Where the manual leaves a point open it rests on the model's choice: notes/assumptions,
entries 3, 15 and 18. -/
def Obligations.SpindleTakesATarget : Prop :=
  (∀ (p : Port) (v1 v0 : Byte) (dir : SpinDir) (s : State), Ready s p →
      let speed := u16 v1 v0
      let i : Instr := .spindle p (frame [v1, v0, enc1 dir.code])
      let refused := fun c : Byte => exec i s = .next (onlyReply s p [c])
      (12000 < speed → refused 6) ∧
      (speed ≤ 12000 →
        (s.hasClaim p .spindle = false → refused 3) ∧
        (s.hasClaim p .spindle = true →
          (0 < speed ∧ s.machine ≠ .run → refused 8) ∧
          (speed = 0 ∨ s.machine = .run →
            (s.spindle.state.isFault = true → refused 13) ∧
            (s.spindle.state.isFault = false →
              let range := s.config.chooseRange s.spindle.currentRange speed
              let eff := s.effectiveSpeed range speed
              (speed = 0 →
                Replies i s p [0, 0, 0, 0] (fun t =>
                  Follows s t ∧
                  (Quiet s → s.spindle.state = .stopped →
                    t.spindle = { s.spindle with speed := 0, dir := dir, effective := 0 }) ∧
                  (Quiet s → s.spindle.state = .stopping → s.spindle.quiet = false →
                    t.spindle = { s.spindle with speed := 0, dir := dir, effective := 0 }) ∧
                  (Quiet s → (∃ r stage, s.spindle.state = .shifting r stage) → StageWaits s →
                    t.spindle = { s.spindle with speed := 0, dir := dir, effective := 0 }) ∧
                  (Quiet s → s.spindle.state = .running →
                    (t.spindle.state = .stopping ∨ t.spindle.state = .stopped) ∧ t.spindle.speed = 0 ∧
                      t.spindle.cmdCode = 0 ∧ t.spindle.cmdDir = none ∧ t.spindle.atSpeed = false))) ∧
              (0 < speed →
                Replies i s p (0 :: enc1 range.code :: enc2 eff) (fun t =>
                  Follows s t ∧
                  (Quiet s → (∃ r stage, s.spindle.state = .shifting r stage) → StageWaits s →
                    t.spindle = { s.spindle with speed := speed, dir := dir, effective := eff }) ∧
                  (Quiet s → s.spindle.state = .stopped ∨ s.spindle.state = .running ∨ s.spindle.state = .stopping →
                    s.spindle.engaged ≠ some range → s.spindle.engaged = s.rangeReading → s.hyd.state ≠ .lost →
                    t.spindle.speed = speed ∧ t.spindle.dir = dir ∧ t.spindle.effective = eff ∧ t.spindle.atSpeed = false ∧
                      ∃ stage, t.spindle.state = .shifting range stage) ∧
                  (Quiet s → s.spindle.state = .stopped ∨ s.spindle.state = .running ∨ s.spindle.state = .stopping →
                    s.spindle.engaged = some range →
                    t.spindle.state = .running ∧ t.spindle.speed = speed ∧ t.spindle.dir = dir ∧ t.spindle.effective = eff ∧
                      t.spindle.cmdCode = s.config.driveCode range eff ∧ t.spindle.cmdDir = some dir.drive ∧
                      t.spindle.outCode = s.spindle.outCode ∧ t.spindle.relay = s.spindle.relay)))))))) ∧
  (∀ s : State, Quiet s →
      s.spindle.state = .running ∨ s.spindle.state = .stopping ∨ (∃ r, s.spindle.state = .shifting r .halt) ∨
        (∃ r, s.spindle.state = .shifting r .cylA ∧ s.readA ≠ some r.wantA) ∨
        (∃ r, s.spindle.state = .shifting r .cylB ∧ s.readB ≠ some r.wantB) →
      let sp := s.spindle
      let ramp := s.config.spindle.ramp.toNat
      ∃ t, exec .motionPeriod s = .next t ∧
        (sp.relay = sp.cmdDir →
          t.spindle.relay = sp.relay ∧
            t.spindle.outCode =
              (if sp.outCode ≤ sp.cmdCode then min sp.cmdCode (sp.outCode + ramp) else max sp.cmdCode (sp.outCode - ramp))) ∧
        (sp.relay ≠ sp.cmdDir → sp.outCode ≠ 0 → t.spindle.relay = sp.relay ∧ t.spindle.outCode = sp.outCode - ramp) ∧
        (sp.relay ≠ sp.cmdDir → sp.outCode = 0 → t.spindle.relay = sp.cmdDir ∧ t.spindle.outCode = 0))

/-- O49. SHIFT: the checks in order, then the gear begins to move. (section 8.5 of 08_spindle_and_gearbox.md) Where the manual leaves
a point open it rests on the model's choice: notes/assumptions, entry 18. -/
def Obligations.ShiftStartsFromStopped : Prop :=
  ∀ (p : Port) (g : GearRange) (s : State), Ready s p →
    let i : Instr := .shift p (frame [enc1 g.code])
    let refusal : Option Byte :=
      if s.hasClaim p .spindle = false then some 3
      else if s.machine ≠ .run then some 8
      else if s.spindle.state ≠ .stopped then some 4
      else if s.hyd.state = .lost then some 14
      else if s.spindle.engaged = some g then some 0
      else none
    (∀ c, refusal = some c → exec i s = .next (onlyReply s p [c])) ∧
    (refusal = none →
      Replies i s p [0] (fun t =>
        Follows s t ∧
        (Quiet s → s.spindle.engaged = s.rangeReading →
          t.spindle.speed = 0 ∧ t.spindle.effective = 0 ∧ ∃ stage, t.spindle.state = .shifting g stage))) ∧
    ∀ n : Byte, n = 0 ∨ 4 < n.toNat → exec (.shift p (frame [n])) s = .next (onlyReply s p [6])

/-- O50. COOLANT: the checks in order, then the elements follow the mode. (section 9.5 of 09_coolant.md) -/
def Obligations.CoolantTakesAMode : Prop :=
  ∀ (p : Port) (m : CoolantMode) (s : State), Ready s p →
    let i : Instr := .coolant p (frame [enc1 m.code])
    let refusal : Option Byte :=
      if s.hasClaim p .coolant = false then some 3
      else if m ≠ .off ∧ s.machine ≠ .run then some 8
      else if m ≠ .off ∧ s.inputs.lowLevel = true then some 13
      else none
    (∀ c, refusal = some c → exec i s = .next (onlyReply s p [c])) ∧
    (refusal = none →
      let flood : Byte := if m = .flood ∨ m = .both then 1 else 0
      let through : Byte :=
        if m = .off ∨ m = .flood then 0
        else
          match s.coolant.through with
          | .waitSpindle => 1
          | .priming => 2
          | .on => 3
          | _ => if s.spindle.measured < s.config.tscMinSpeed.toNat then 1 else if s.inputs.coolantPressure then 3 else 2
      Replies i s p [0, enc1 m.code, flood, through] (fun t =>
        Follows s t ∧
        (Quiet s → m = .off →
          t.coolant =
            { mode := .off, flood := .off, through := .off, floodPump := false, throughPump := false, primeTimer := none,
              lossTimer := none }) ∧
        (Quiet s → m ≠ .off →
          t.coolant.mode = m ∧
          (if m = .flood ∨ m = .both then t.coolant.flood = .on ∧ t.coolant.floodPump = true
            else t.coolant.flood = .off ∧ t.coolant.floodPump = false) ∧
          (if m = .flood then t.coolant.through = .off ∧ t.coolant.throughPump = false
            else if s.coolant.through = .off ∨ s.coolant.through.isFault = true then
              (if s.config.tscMinSpeed.toNat ≤ s.spindle.measured then
                t.coolant.throughPump = true ∧
                  t.coolant.through = (if s.inputs.coolantPressure then .on else .priming)
              else t.coolant.through = .waitSpindle)
            else t.coolant.through = s.coolant.through ∧ t.coolant.throughPump = s.coolant.throughPump)))) ∧
    ∀ n : Byte, 3 < n.toNat → exec (.coolant p (frame [n])) s = .next (onlyReply s p [6])

/-- O51. CONFIG WRITE, CONFIG STORE and CONFIG RELOAD. (section 12.3 of 12_stored_configuration_and_start_up.md, section 12.4 of
12_stored_configuration_and_start_up.md) -/
def Obligations.ConfigurationIsWrittenStoredReloaded : Prop :=
  ∀ (p : Port) (s : State), Ready s p →
    (∀ n k v3 v2 v1 v0 : Byte,
      let i : Instr := .configWrite p (frame [n, k, v3, v2, v1, v0])
      let v := s32 v3 v2 v1 v0
      (Param.ofId n.toNat k.toNat = none → Replies i s p [0, 0, 6] (fun t => Follows s t)) ∧
      ∀ q, Param.ofId n.toNat k.toNat = some q →
        let refusal : Option Byte :=
          if s.config.inBounds q v = false ∨ (s.config.put q v).crossOk = false then some 6
          else if s.store.reloadOn = true then some 4
          else if s.groupClaim p q = false then some 3
          else if s.groupAtRest q = false then some 4
          else if s.groupCompFree q = false then some 13
          else none
        (∀ c, refusal = some c → Replies i s p [0, 0, c] (fun t => Follows s t)) ∧
        (refusal = none → Replies i s p [0, 1, 0] (fun t => Follows { s with config := s.config.put q v } t))) ∧
    (∀ bs : List Byte, bs ≠ [] → bs.length ≤ 120 →
      let w := State.writeGroups p s bs
      (bs.length % 6 ≠ 0 → exec (.configWrite p (frame bs)) s = .next (onlyReply s p [6])) ∧
      (bs.length % 6 = 0 →
        Replies (.configWrite p (frame bs)) s p [0, enc1 w.2.1, enc1 w.2.2.code] (fun t => Follows w.1 t))) ∧
    (∀ (u : State) (n k v3 v2 v1 v0 : Byte) (rest : List Byte),
      let bs := n :: k :: v3 :: v2 :: v1 :: v0 :: rest
      let v := s32 v3 v2 v1 v0
      (∀ short : List Byte, short.length < 6 → State.writeGroups p u short = (u, 0, .ok)) ∧
      (Param.ofId n.toNat k.toNat = none →
        State.writeGroups p u bs = ((State.writeGroups p u rest).1, (State.writeGroups p u rest).2.1, .badParam)) ∧
      ∀ q, Param.ofId n.toNat k.toNat = some q →
        (u.groupCheck p q v ≠ .ok →
          State.writeGroups p u bs =
            ((State.writeGroups p u rest).1, (State.writeGroups p u rest).2.1, u.groupCheck p q v)) ∧
        (u.groupCheck p q v = .ok →
          let w := State.writeGroups p { u with config := u.config.put q v } rest
          State.writeGroups p u bs = (w.1, w.2.1 + 1, w.2.2))) ∧
    (s.hasAllClaims p = false → exec (.configStore p (frame [])) s = .next (onlyReply s p [3])) ∧
    (s.hasAllClaims p = true → s.store.op ≠ .idle → exec (.configStore p (frame [])) s = .next (onlyReply s p [4])) ∧
    (s.hasAllClaims p = true → s.store.op = .idle →
      Replies (.configStore p (frame [])) s p [0] (fun t =>
        Follows { s with store := { s.store with op := .storing p s.config.image } } t)) ∧
    (s.machine ≠ .estop → s.machine ≠ .resetWait → exec (.configReload p (frame [])) s = .next (onlyReply s p [13])) ∧
    (s.machine = .estop ∨ s.machine = .resetWait →
      (s.store.op ≠ .idle → exec (.configReload p (frame [])) s = .next (onlyReply s p [4])) ∧
      (s.store.op = .idle →
        Replies (.configReload p (frame [])) s p [0] (fun t =>
          Follows { s with store := { s.store with op := .reloading p false } } t)))

/-- O52. Every step keeps the canonical form that the model gives the serial memory (log entry 11). (section 13.5 of
13_frame_and_record_layouts.md) Where the manual leaves a point open it rests on the model's choice: notes/assumptions, entry 11. -/
def Obligations.SerialMemoryStaysCanonical : Prop :=
  ∀ s : State, Memory.wf s.serial = true → ∀ t, step s = .next t → Memory.wf t.serial = true

/-- O53. Every step keeps the bounds of program queues, event queues and the byte in progress. (section 2.4 of 02_program_queues.md,
section 11.4 of 11_link_ports.md, section 11.1 of 11_link_ports.md, section 11.2 of 11_link_ports.md) Where the manual leaves a
point open it rests on the model's choice: notes/assumptions, entry 6. -/
def Obligations.QueuesStayWithinTheirLengths : Prop :=
  ∀ s : State, BoundsLaw s → ∀ t, step s = .next t → BoundsLaw t

/-- O54. Every step keeps: a release valve is on in RELEASING and RELEASED only, and only while the unit is UP. (section 7.3 of
07_hydraulic_unit_and_axis_clamps.md) -/
def Obligations.ReleaseValvesKeepTheirLaw : Prop :=
  ∀ s : State, ValveLaw s → ∀ t, step s = .next t → ValveLaw t

/-- O55. Every step keeps: hand motion is pending only in RUN, enabled, without hold, on a held axis. (section 6.4 of
06_handwheel_jogging.md) -/
def Obligations.PendingDistancesStandOnlyInRun : Prop :=
  ∀ s : State, PendingLaw s → ∀ t, step s = .next t → PendingLaw t

/-- O56. Every step keeps the law of the claim table. (section 1.2 of 01_resources_and_claims.md) -/
def Obligations.ClaimTableKeepsItsLaw : Prop :=
  ∀ s : State, ClaimLaw s → ∀ t, step s = .next t → ClaimLaw t

/-- O57. Every step keeps what the spindle record holds in each of its states. (section 8.3 of 08_spindle_and_gearbox.md, section 8.4
of 08_spindle_and_gearbox.md, section 8.5 of 08_spindle_and_gearbox.md) -/
def Obligations.SpindleKeepsItsLaw : Prop :=
  ∀ s : State, SpindleInv s → ∀ t, step s = .next t → SpindleInv t

/-- O58. Every step keeps: the coolant pumps run only where their elements' states run them. (section 9.2 of 09_coolant.md, section
9.3 of 09_coolant.md) -/
def Obligations.CoolantKeepsItsLaw : Prop :=
  ∀ s : State, CoolantInv s → ∀ t, step s = .next t → CoolantInv t

/-- O59. The laws hold right after reset. (section 12.1 of 12_stored_configuration_and_start_up.md) Where the manual leaves a point
open it rests on the model's choice: notes/assumptions, entries 9, 10 and 11. -/
def Obligations.InvariantsHoldAtReset : Prop :=
  Memory.wf State.reset.serial = true ∧ BoundsLaw State.reset ∧ ValveLaw State.reset ∧ PendingLaw State.reset ∧
  ClaimLaw State.reset ∧ SpindleInv State.reset ∧ CoolantInv State.reset ∧ ConfigSound State.reset.config

/-- O60. The stored image decodes to the configuration it was made from. (section 12.1 of 12_stored_configuration_and_start_up.md,
section 13.5 of 13_frame_and_record_layouts.md) -/
def Obligations.ImageReadsBackAsItWasWritten : Prop :=
  ∀ (c : WorkingConfig) (more : List Byte), ConfigSound c → decodeImage (c.image ++ more) = some c
end

