-- ==== Sys2Proof/Laws/State.lean ====
section
/-! SUPPORT. Laws/State.lean: what each update leaves and makes of each field of the state, and reading one part of a
per-axis or per-port value after another has been written. -/

namespace Sys2Proof

/-! ### Per-axis and per-port values -/

@[simp] theorem PerAxis.get_set_same {α : Type} (v : PerAxis α) (a : Axis) (t : α) : (v.set a t).get a = t := by
  cases a <;> rfl

theorem PerAxis.get_set_ne {α : Type} (v : PerAxis α) {a c : Axis} (t : α) (h : c ≠ a) : (v.set a t).get c = v.get c := by
  cases a <;> cases c <;> first | rfl | exact absurd rfl h

theorem PerAxis.get_set {α : Type} (v : PerAxis α) (a c : Axis) (t : α) :
    (v.set a t).get c = if c = a then t else v.get c := by
  cases a <;> cases c <;> rfl

@[simp] theorem PerAxis.set_get {α : Type} (v : PerAxis α) (a : Axis) : v.set a (v.get a) = v := by
  cases a <;> rfl

@[simp] theorem PerAxis.get_const {α : Type} (t : α) (a : Axis) : (PerAxis.const t).get a = t := by cases a <;> rfl

@[simp] theorem PerAxis.get_ofFn {α : Type} (f : Axis → α) (a : Axis) : (PerAxis.ofFn f).get a = f a := by cases a <;> rfl

@[simp] theorem PerPort.get_set_same {α : Type} (v : PerPort α) (p : Port) (t : α) : (v.set p t).get p = t := by
  cases p <;> rfl

theorem PerPort.get_set_ne {α : Type} (v : PerPort α) {p q : Port} (t : α) (h : q ≠ p) : (v.set p t).get q = v.get q := by
  cases p <;> cases q <;> first | rfl | exact absurd rfl h

theorem PerPort.get_set {α : Type} (v : PerPort α) (p q : Port) (t : α) :
    (v.set p t).get q = if q = p then t else v.get q := by
  cases p <;> cases q <;> rfl

@[simp] theorem PerPort.set_get {α : Type} (v : PerPort α) (p : Port) : v.set p (v.get p) = v := by
  cases p <;> rfl

@[simp] theorem PerPort.get_const {α : Type} (t : α) (p : Port) : (PerPort.const t).get p = t := by cases p <;> rfl

/-- Every axis is in the list of axes. -/
@[simp] theorem Axis.mem_all (a : Axis) : a ∈ Axis.all := by cases a <;> simp [Axis.all]

/-- Every port is in the list of ports. -/
@[simp] theorem Port.mem_all (p : Port) : p ∈ Port.all := by cases p <;> simp [Port.all]

namespace Machine

/-- Every resource is in the list of resources. -/
@[simp] theorem Resource.mem_all (r : Resource) : r ∈ Resource.all := by
  cases r with
  | axis a => cases a <;> simp [Resource.all]
  | spindle => simp [Resource.all]
  | coolant => simp [Resource.all]

@[simp] theorem Claims.row_setRow_same (c : Claims) (r : Resource) (w : ClaimRow) : (c.setRow r w).row r = w := by
  cases r <;> simp [Claims.row, Claims.setRow]

theorem Claims.row_setRow_ne (c : Claims) {r q : Resource} (w : ClaimRow) (h : q ≠ r) : (c.setRow r w).row q = c.row q := by
  cases r with
  | axis a =>
    cases q with
    | axis c => exact PerAxis.get_set_ne _ _ (fun e => h (e ▸ rfl))
    | spindle => rfl
    | coolant => rfl
  | spindle => cases q <;> first | rfl | exact absurd rfl h
  | coolant => cases q <;> first | rfl | exact absurd rfl h

/-! ### State.updAxis -/

@[simp] theorem State.updAxis_pending (s : State) (a : Axis) (f : AxisUnit → AxisUnit) : (s.updAxis a f).pending = s.pending := rfl
@[simp] theorem State.updAxis_now (s : State) (a : Axis) (f : AxisUnit → AxisUnit) : (s.updAxis a f).now = s.now := rfl
@[simp] theorem State.updAxis_choices (s : State) (a : Axis) (f : AxisUnit → AxisUnit) : (s.updAxis a f).choices = s.choices := rfl
@[simp] theorem State.updAxis_machine (s : State) (a : Axis) (f : AxisUnit → AxisUnit) : (s.updAxis a f).machine = s.machine := rfl
@[simp] theorem State.updAxis_holds (s : State) (a : Axis) (f : AxisUnit → AxisUnit) : (s.updAxis a f).holds = s.holds := rfl
@[simp] theorem State.updAxis_overrides (s : State) (a : Axis) (f : AxisUnit → AxisUnit) : (s.updAxis a f).overrides = s.overrides := rfl
@[simp] theorem State.updAxis_inputs (s : State) (a : Axis) (f : AxisUnit → AxisUnit) : (s.updAxis a f).inputs = s.inputs := rfl
@[simp] theorem State.updAxis_conditioner (s : State) (a : Axis) (f : AxisUnit → AxisUnit) : (s.updAxis a f).conditioner = s.conditioner := rfl
@[simp] theorem State.updAxis_config (s : State) (a : Axis) (f : AxisUnit → AxisUnit) : (s.updAxis a f).config = s.config := rfl
@[simp] theorem State.updAxis_store (s : State) (a : Axis) (f : AxisUnit → AxisUnit) : (s.updAxis a f).store = s.store := rfl
@[simp] theorem State.updAxis_serial (s : State) (a : Axis) (f : AxisUnit → AxisUnit) : (s.updAxis a f).serial = s.serial := rfl
@[simp] theorem State.updAxis_claims (s : State) (a : Axis) (f : AxisUnit → AxisUnit) : (s.updAxis a f).claims = s.claims := rfl
@[simp] theorem State.updAxis_queues (s : State) (a : Axis) (f : AxisUnit → AxisUnit) : (s.updAxis a f).queues = s.queues := rfl
@[simp] theorem State.updAxis_planned (s : State) (a : Axis) (f : AxisUnit → AxisUnit) : (s.updAxis a f).planned = s.planned := rfl
@[simp] theorem State.updAxis_moves (s : State) (a : Axis) (f : AxisUnit → AxisUnit) : (s.updAxis a f).moves = s.moves := rfl
@[simp] theorem State.updAxis_latch (s : State) (a : Axis) (f : AxisUnit → AxisUnit) : (s.updAxis a f).latch = s.latch := rfl
@[simp] theorem State.updAxis_probes (s : State) (a : Axis) (f : AxisUnit → AxisUnit) : (s.updAxis a f).probes = s.probes := rfl
@[simp] theorem State.updAxis_axes (s : State) (a : Axis) (f : AxisUnit → AxisUnit) : (s.updAxis a f).axes = s.axes.set a (f (s.axes.get a)) := rfl
@[simp] theorem State.updAxis_zones (s : State) (a : Axis) (f : AxisUnit → AxisUnit) : (s.updAxis a f).zones = s.zones := rfl
@[simp] theorem State.updAxis_hands (s : State) (a : Axis) (f : AxisUnit → AxisUnit) : (s.updAxis a f).hands = s.hands := rfl
@[simp] theorem State.updAxis_hyd (s : State) (a : Axis) (f : AxisUnit → AxisUnit) : (s.updAxis a f).hyd = s.hyd := rfl
@[simp] theorem State.updAxis_clamps (s : State) (a : Axis) (f : AxisUnit → AxisUnit) : (s.updAxis a f).clamps = s.clamps := rfl
@[simp] theorem State.updAxis_spindle (s : State) (a : Axis) (f : AxisUnit → AxisUnit) : (s.updAxis a f).spindle = s.spindle := rfl
@[simp] theorem State.updAxis_coolant (s : State) (a : Axis) (f : AxisUnit → AxisUnit) : (s.updAxis a f).coolant = s.coolant := rfl
@[simp] theorem State.updAxis_ports (s : State) (a : Axis) (f : AxisUnit → AxisUnit) : (s.updAxis a f).ports = s.ports := rfl

/-! ### State.updClamp -/

@[simp] theorem State.updClamp_pending (s : State) (a : Axis) (f : Clamp → Clamp) : (s.updClamp a f).pending = s.pending := rfl
@[simp] theorem State.updClamp_now (s : State) (a : Axis) (f : Clamp → Clamp) : (s.updClamp a f).now = s.now := rfl
@[simp] theorem State.updClamp_choices (s : State) (a : Axis) (f : Clamp → Clamp) : (s.updClamp a f).choices = s.choices := rfl
@[simp] theorem State.updClamp_machine (s : State) (a : Axis) (f : Clamp → Clamp) : (s.updClamp a f).machine = s.machine := rfl
@[simp] theorem State.updClamp_holds (s : State) (a : Axis) (f : Clamp → Clamp) : (s.updClamp a f).holds = s.holds := rfl
@[simp] theorem State.updClamp_overrides (s : State) (a : Axis) (f : Clamp → Clamp) : (s.updClamp a f).overrides = s.overrides := rfl
@[simp] theorem State.updClamp_inputs (s : State) (a : Axis) (f : Clamp → Clamp) : (s.updClamp a f).inputs = s.inputs := rfl
@[simp] theorem State.updClamp_conditioner (s : State) (a : Axis) (f : Clamp → Clamp) : (s.updClamp a f).conditioner = s.conditioner := rfl
@[simp] theorem State.updClamp_config (s : State) (a : Axis) (f : Clamp → Clamp) : (s.updClamp a f).config = s.config := rfl
@[simp] theorem State.updClamp_store (s : State) (a : Axis) (f : Clamp → Clamp) : (s.updClamp a f).store = s.store := rfl
@[simp] theorem State.updClamp_serial (s : State) (a : Axis) (f : Clamp → Clamp) : (s.updClamp a f).serial = s.serial := rfl
@[simp] theorem State.updClamp_claims (s : State) (a : Axis) (f : Clamp → Clamp) : (s.updClamp a f).claims = s.claims := rfl
@[simp] theorem State.updClamp_queues (s : State) (a : Axis) (f : Clamp → Clamp) : (s.updClamp a f).queues = s.queues := rfl
@[simp] theorem State.updClamp_planned (s : State) (a : Axis) (f : Clamp → Clamp) : (s.updClamp a f).planned = s.planned := rfl
@[simp] theorem State.updClamp_moves (s : State) (a : Axis) (f : Clamp → Clamp) : (s.updClamp a f).moves = s.moves := rfl
@[simp] theorem State.updClamp_latch (s : State) (a : Axis) (f : Clamp → Clamp) : (s.updClamp a f).latch = s.latch := rfl
@[simp] theorem State.updClamp_probes (s : State) (a : Axis) (f : Clamp → Clamp) : (s.updClamp a f).probes = s.probes := rfl
@[simp] theorem State.updClamp_axes (s : State) (a : Axis) (f : Clamp → Clamp) : (s.updClamp a f).axes = s.axes := rfl
@[simp] theorem State.updClamp_zones (s : State) (a : Axis) (f : Clamp → Clamp) : (s.updClamp a f).zones = s.zones := rfl
@[simp] theorem State.updClamp_hands (s : State) (a : Axis) (f : Clamp → Clamp) : (s.updClamp a f).hands = s.hands := rfl
@[simp] theorem State.updClamp_hyd (s : State) (a : Axis) (f : Clamp → Clamp) : (s.updClamp a f).hyd = s.hyd := rfl
@[simp] theorem State.updClamp_clamps (s : State) (a : Axis) (f : Clamp → Clamp) : (s.updClamp a f).clamps = s.clamps.set a (f (s.clamps.get a)) := rfl
@[simp] theorem State.updClamp_spindle (s : State) (a : Axis) (f : Clamp → Clamp) : (s.updClamp a f).spindle = s.spindle := rfl
@[simp] theorem State.updClamp_coolant (s : State) (a : Axis) (f : Clamp → Clamp) : (s.updClamp a f).coolant = s.coolant := rfl
@[simp] theorem State.updClamp_ports (s : State) (a : Axis) (f : Clamp → Clamp) : (s.updClamp a f).ports = s.ports := rfl

/-! ### State.updHand -/

@[simp] theorem State.updHand_pending (s : State) (a : Axis) (f : Hand → Hand) : (s.updHand a f).pending = s.pending := rfl
@[simp] theorem State.updHand_now (s : State) (a : Axis) (f : Hand → Hand) : (s.updHand a f).now = s.now := rfl
@[simp] theorem State.updHand_choices (s : State) (a : Axis) (f : Hand → Hand) : (s.updHand a f).choices = s.choices := rfl
@[simp] theorem State.updHand_machine (s : State) (a : Axis) (f : Hand → Hand) : (s.updHand a f).machine = s.machine := rfl
@[simp] theorem State.updHand_holds (s : State) (a : Axis) (f : Hand → Hand) : (s.updHand a f).holds = s.holds := rfl
@[simp] theorem State.updHand_overrides (s : State) (a : Axis) (f : Hand → Hand) : (s.updHand a f).overrides = s.overrides := rfl
@[simp] theorem State.updHand_inputs (s : State) (a : Axis) (f : Hand → Hand) : (s.updHand a f).inputs = s.inputs := rfl
@[simp] theorem State.updHand_conditioner (s : State) (a : Axis) (f : Hand → Hand) : (s.updHand a f).conditioner = s.conditioner := rfl
@[simp] theorem State.updHand_config (s : State) (a : Axis) (f : Hand → Hand) : (s.updHand a f).config = s.config := rfl
@[simp] theorem State.updHand_store (s : State) (a : Axis) (f : Hand → Hand) : (s.updHand a f).store = s.store := rfl
@[simp] theorem State.updHand_serial (s : State) (a : Axis) (f : Hand → Hand) : (s.updHand a f).serial = s.serial := rfl
@[simp] theorem State.updHand_claims (s : State) (a : Axis) (f : Hand → Hand) : (s.updHand a f).claims = s.claims := rfl
@[simp] theorem State.updHand_queues (s : State) (a : Axis) (f : Hand → Hand) : (s.updHand a f).queues = s.queues := rfl
@[simp] theorem State.updHand_planned (s : State) (a : Axis) (f : Hand → Hand) : (s.updHand a f).planned = s.planned := rfl
@[simp] theorem State.updHand_moves (s : State) (a : Axis) (f : Hand → Hand) : (s.updHand a f).moves = s.moves := rfl
@[simp] theorem State.updHand_latch (s : State) (a : Axis) (f : Hand → Hand) : (s.updHand a f).latch = s.latch := rfl
@[simp] theorem State.updHand_probes (s : State) (a : Axis) (f : Hand → Hand) : (s.updHand a f).probes = s.probes := rfl
@[simp] theorem State.updHand_axes (s : State) (a : Axis) (f : Hand → Hand) : (s.updHand a f).axes = s.axes := rfl
@[simp] theorem State.updHand_zones (s : State) (a : Axis) (f : Hand → Hand) : (s.updHand a f).zones = s.zones := rfl
@[simp] theorem State.updHand_hands (s : State) (a : Axis) (f : Hand → Hand) : (s.updHand a f).hands = s.hands.set a (f (s.hands.get a)) := rfl
@[simp] theorem State.updHand_hyd (s : State) (a : Axis) (f : Hand → Hand) : (s.updHand a f).hyd = s.hyd := rfl
@[simp] theorem State.updHand_clamps (s : State) (a : Axis) (f : Hand → Hand) : (s.updHand a f).clamps = s.clamps := rfl
@[simp] theorem State.updHand_spindle (s : State) (a : Axis) (f : Hand → Hand) : (s.updHand a f).spindle = s.spindle := rfl
@[simp] theorem State.updHand_coolant (s : State) (a : Axis) (f : Hand → Hand) : (s.updHand a f).coolant = s.coolant := rfl
@[simp] theorem State.updHand_ports (s : State) (a : Axis) (f : Hand → Hand) : (s.updHand a f).ports = s.ports := rfl

/-! ### State.updQueue -/

@[simp] theorem State.updQueue_pending (s : State) (p : Port) (f : Queue → Queue) : (s.updQueue p f).pending = s.pending := rfl
@[simp] theorem State.updQueue_now (s : State) (p : Port) (f : Queue → Queue) : (s.updQueue p f).now = s.now := rfl
@[simp] theorem State.updQueue_choices (s : State) (p : Port) (f : Queue → Queue) : (s.updQueue p f).choices = s.choices := rfl
@[simp] theorem State.updQueue_machine (s : State) (p : Port) (f : Queue → Queue) : (s.updQueue p f).machine = s.machine := rfl
@[simp] theorem State.updQueue_holds (s : State) (p : Port) (f : Queue → Queue) : (s.updQueue p f).holds = s.holds := rfl
@[simp] theorem State.updQueue_overrides (s : State) (p : Port) (f : Queue → Queue) : (s.updQueue p f).overrides = s.overrides := rfl
@[simp] theorem State.updQueue_inputs (s : State) (p : Port) (f : Queue → Queue) : (s.updQueue p f).inputs = s.inputs := rfl
@[simp] theorem State.updQueue_conditioner (s : State) (p : Port) (f : Queue → Queue) : (s.updQueue p f).conditioner = s.conditioner := rfl
@[simp] theorem State.updQueue_config (s : State) (p : Port) (f : Queue → Queue) : (s.updQueue p f).config = s.config := rfl
@[simp] theorem State.updQueue_store (s : State) (p : Port) (f : Queue → Queue) : (s.updQueue p f).store = s.store := rfl
@[simp] theorem State.updQueue_serial (s : State) (p : Port) (f : Queue → Queue) : (s.updQueue p f).serial = s.serial := rfl
@[simp] theorem State.updQueue_claims (s : State) (p : Port) (f : Queue → Queue) : (s.updQueue p f).claims = s.claims := rfl
@[simp] theorem State.updQueue_queues (s : State) (p : Port) (f : Queue → Queue) : (s.updQueue p f).queues = s.queues.set p (f (s.queues.get p)) := rfl
@[simp] theorem State.updQueue_planned (s : State) (p : Port) (f : Queue → Queue) : (s.updQueue p f).planned = s.planned := rfl
@[simp] theorem State.updQueue_moves (s : State) (p : Port) (f : Queue → Queue) : (s.updQueue p f).moves = s.moves := rfl
@[simp] theorem State.updQueue_latch (s : State) (p : Port) (f : Queue → Queue) : (s.updQueue p f).latch = s.latch := rfl
@[simp] theorem State.updQueue_probes (s : State) (p : Port) (f : Queue → Queue) : (s.updQueue p f).probes = s.probes := rfl
@[simp] theorem State.updQueue_axes (s : State) (p : Port) (f : Queue → Queue) : (s.updQueue p f).axes = s.axes := rfl
@[simp] theorem State.updQueue_zones (s : State) (p : Port) (f : Queue → Queue) : (s.updQueue p f).zones = s.zones := rfl
@[simp] theorem State.updQueue_hands (s : State) (p : Port) (f : Queue → Queue) : (s.updQueue p f).hands = s.hands := rfl
@[simp] theorem State.updQueue_hyd (s : State) (p : Port) (f : Queue → Queue) : (s.updQueue p f).hyd = s.hyd := rfl
@[simp] theorem State.updQueue_clamps (s : State) (p : Port) (f : Queue → Queue) : (s.updQueue p f).clamps = s.clamps := rfl
@[simp] theorem State.updQueue_spindle (s : State) (p : Port) (f : Queue → Queue) : (s.updQueue p f).spindle = s.spindle := rfl
@[simp] theorem State.updQueue_coolant (s : State) (p : Port) (f : Queue → Queue) : (s.updQueue p f).coolant = s.coolant := rfl
@[simp] theorem State.updQueue_ports (s : State) (p : Port) (f : Queue → Queue) : (s.updQueue p f).ports = s.ports := rfl

/-! ### State.updPort -/

@[simp] theorem State.updPort_pending (s : State) (p : Port) (f : LinkPort → LinkPort) : (s.updPort p f).pending = s.pending := rfl
@[simp] theorem State.updPort_now (s : State) (p : Port) (f : LinkPort → LinkPort) : (s.updPort p f).now = s.now := rfl
@[simp] theorem State.updPort_choices (s : State) (p : Port) (f : LinkPort → LinkPort) : (s.updPort p f).choices = s.choices := rfl
@[simp] theorem State.updPort_machine (s : State) (p : Port) (f : LinkPort → LinkPort) : (s.updPort p f).machine = s.machine := rfl
@[simp] theorem State.updPort_holds (s : State) (p : Port) (f : LinkPort → LinkPort) : (s.updPort p f).holds = s.holds := rfl
@[simp] theorem State.updPort_overrides (s : State) (p : Port) (f : LinkPort → LinkPort) : (s.updPort p f).overrides = s.overrides := rfl
@[simp] theorem State.updPort_inputs (s : State) (p : Port) (f : LinkPort → LinkPort) : (s.updPort p f).inputs = s.inputs := rfl
@[simp] theorem State.updPort_conditioner (s : State) (p : Port) (f : LinkPort → LinkPort) : (s.updPort p f).conditioner = s.conditioner := rfl
@[simp] theorem State.updPort_config (s : State) (p : Port) (f : LinkPort → LinkPort) : (s.updPort p f).config = s.config := rfl
@[simp] theorem State.updPort_store (s : State) (p : Port) (f : LinkPort → LinkPort) : (s.updPort p f).store = s.store := rfl
@[simp] theorem State.updPort_serial (s : State) (p : Port) (f : LinkPort → LinkPort) : (s.updPort p f).serial = s.serial := rfl
@[simp] theorem State.updPort_claims (s : State) (p : Port) (f : LinkPort → LinkPort) : (s.updPort p f).claims = s.claims := rfl
@[simp] theorem State.updPort_queues (s : State) (p : Port) (f : LinkPort → LinkPort) : (s.updPort p f).queues = s.queues := rfl
@[simp] theorem State.updPort_planned (s : State) (p : Port) (f : LinkPort → LinkPort) : (s.updPort p f).planned = s.planned := rfl
@[simp] theorem State.updPort_moves (s : State) (p : Port) (f : LinkPort → LinkPort) : (s.updPort p f).moves = s.moves := rfl
@[simp] theorem State.updPort_latch (s : State) (p : Port) (f : LinkPort → LinkPort) : (s.updPort p f).latch = s.latch := rfl
@[simp] theorem State.updPort_probes (s : State) (p : Port) (f : LinkPort → LinkPort) : (s.updPort p f).probes = s.probes := rfl
@[simp] theorem State.updPort_axes (s : State) (p : Port) (f : LinkPort → LinkPort) : (s.updPort p f).axes = s.axes := rfl
@[simp] theorem State.updPort_zones (s : State) (p : Port) (f : LinkPort → LinkPort) : (s.updPort p f).zones = s.zones := rfl
@[simp] theorem State.updPort_hands (s : State) (p : Port) (f : LinkPort → LinkPort) : (s.updPort p f).hands = s.hands := rfl
@[simp] theorem State.updPort_hyd (s : State) (p : Port) (f : LinkPort → LinkPort) : (s.updPort p f).hyd = s.hyd := rfl
@[simp] theorem State.updPort_clamps (s : State) (p : Port) (f : LinkPort → LinkPort) : (s.updPort p f).clamps = s.clamps := rfl
@[simp] theorem State.updPort_spindle (s : State) (p : Port) (f : LinkPort → LinkPort) : (s.updPort p f).spindle = s.spindle := rfl
@[simp] theorem State.updPort_coolant (s : State) (p : Port) (f : LinkPort → LinkPort) : (s.updPort p f).coolant = s.coolant := rfl
@[simp] theorem State.updPort_ports (s : State) (p : Port) (f : LinkPort → LinkPort) : (s.updPort p f).ports = s.ports.set p (f (s.ports.get p)) := rfl

/-! ### State.setMove -/

@[simp] theorem State.setMove_pending (s : State) (p : Port) (m : Option Move) : (s.setMove p m).pending = s.pending := rfl
@[simp] theorem State.setMove_now (s : State) (p : Port) (m : Option Move) : (s.setMove p m).now = s.now := rfl
@[simp] theorem State.setMove_choices (s : State) (p : Port) (m : Option Move) : (s.setMove p m).choices = s.choices := rfl
@[simp] theorem State.setMove_machine (s : State) (p : Port) (m : Option Move) : (s.setMove p m).machine = s.machine := rfl
@[simp] theorem State.setMove_holds (s : State) (p : Port) (m : Option Move) : (s.setMove p m).holds = s.holds := rfl
@[simp] theorem State.setMove_overrides (s : State) (p : Port) (m : Option Move) : (s.setMove p m).overrides = s.overrides := rfl
@[simp] theorem State.setMove_inputs (s : State) (p : Port) (m : Option Move) : (s.setMove p m).inputs = s.inputs := rfl
@[simp] theorem State.setMove_conditioner (s : State) (p : Port) (m : Option Move) : (s.setMove p m).conditioner = s.conditioner := rfl
@[simp] theorem State.setMove_config (s : State) (p : Port) (m : Option Move) : (s.setMove p m).config = s.config := rfl
@[simp] theorem State.setMove_store (s : State) (p : Port) (m : Option Move) : (s.setMove p m).store = s.store := rfl
@[simp] theorem State.setMove_serial (s : State) (p : Port) (m : Option Move) : (s.setMove p m).serial = s.serial := rfl
@[simp] theorem State.setMove_claims (s : State) (p : Port) (m : Option Move) : (s.setMove p m).claims = s.claims := rfl
@[simp] theorem State.setMove_queues (s : State) (p : Port) (m : Option Move) : (s.setMove p m).queues = s.queues := rfl
@[simp] theorem State.setMove_planned (s : State) (p : Port) (m : Option Move) : (s.setMove p m).planned = s.planned := rfl
@[simp] theorem State.setMove_moves (s : State) (p : Port) (m : Option Move) : (s.setMove p m).moves = s.moves.set p m := rfl
@[simp] theorem State.setMove_latch (s : State) (p : Port) (m : Option Move) : (s.setMove p m).latch = s.latch := rfl
@[simp] theorem State.setMove_probes (s : State) (p : Port) (m : Option Move) : (s.setMove p m).probes = s.probes := rfl
@[simp] theorem State.setMove_axes (s : State) (p : Port) (m : Option Move) : (s.setMove p m).axes = s.axes := rfl
@[simp] theorem State.setMove_zones (s : State) (p : Port) (m : Option Move) : (s.setMove p m).zones = s.zones := rfl
@[simp] theorem State.setMove_hands (s : State) (p : Port) (m : Option Move) : (s.setMove p m).hands = s.hands := rfl
@[simp] theorem State.setMove_hyd (s : State) (p : Port) (m : Option Move) : (s.setMove p m).hyd = s.hyd := rfl
@[simp] theorem State.setMove_clamps (s : State) (p : Port) (m : Option Move) : (s.setMove p m).clamps = s.clamps := rfl
@[simp] theorem State.setMove_spindle (s : State) (p : Port) (m : Option Move) : (s.setMove p m).spindle = s.spindle := rfl
@[simp] theorem State.setMove_coolant (s : State) (p : Port) (m : Option Move) : (s.setMove p m).coolant = s.coolant := rfl
@[simp] theorem State.setMove_ports (s : State) (p : Port) (m : Option Move) : (s.setMove p m).ports = s.ports := rfl

/-! ### State.setPlanned -/

@[simp] theorem State.setPlanned_pending (s : State) (p : Port) (a : Axis) (v : Option Int) : (s.setPlanned p a v).pending = s.pending := rfl
@[simp] theorem State.setPlanned_now (s : State) (p : Port) (a : Axis) (v : Option Int) : (s.setPlanned p a v).now = s.now := rfl
@[simp] theorem State.setPlanned_choices (s : State) (p : Port) (a : Axis) (v : Option Int) : (s.setPlanned p a v).choices = s.choices := rfl
@[simp] theorem State.setPlanned_machine (s : State) (p : Port) (a : Axis) (v : Option Int) : (s.setPlanned p a v).machine = s.machine := rfl
@[simp] theorem State.setPlanned_holds (s : State) (p : Port) (a : Axis) (v : Option Int) : (s.setPlanned p a v).holds = s.holds := rfl
@[simp] theorem State.setPlanned_overrides (s : State) (p : Port) (a : Axis) (v : Option Int) : (s.setPlanned p a v).overrides = s.overrides := rfl
@[simp] theorem State.setPlanned_inputs (s : State) (p : Port) (a : Axis) (v : Option Int) : (s.setPlanned p a v).inputs = s.inputs := rfl
@[simp] theorem State.setPlanned_conditioner (s : State) (p : Port) (a : Axis) (v : Option Int) : (s.setPlanned p a v).conditioner = s.conditioner := rfl
@[simp] theorem State.setPlanned_config (s : State) (p : Port) (a : Axis) (v : Option Int) : (s.setPlanned p a v).config = s.config := rfl
@[simp] theorem State.setPlanned_store (s : State) (p : Port) (a : Axis) (v : Option Int) : (s.setPlanned p a v).store = s.store := rfl
@[simp] theorem State.setPlanned_serial (s : State) (p : Port) (a : Axis) (v : Option Int) : (s.setPlanned p a v).serial = s.serial := rfl
@[simp] theorem State.setPlanned_claims (s : State) (p : Port) (a : Axis) (v : Option Int) : (s.setPlanned p a v).claims = s.claims := rfl
@[simp] theorem State.setPlanned_queues (s : State) (p : Port) (a : Axis) (v : Option Int) : (s.setPlanned p a v).queues = s.queues := rfl
@[simp] theorem State.setPlanned_planned (s : State) (p : Port) (a : Axis) (v : Option Int) : (s.setPlanned p a v).planned = s.planned.set p ((s.planned.get p).set a v) := rfl
@[simp] theorem State.setPlanned_moves (s : State) (p : Port) (a : Axis) (v : Option Int) : (s.setPlanned p a v).moves = s.moves := rfl
@[simp] theorem State.setPlanned_latch (s : State) (p : Port) (a : Axis) (v : Option Int) : (s.setPlanned p a v).latch = s.latch := rfl
@[simp] theorem State.setPlanned_probes (s : State) (p : Port) (a : Axis) (v : Option Int) : (s.setPlanned p a v).probes = s.probes := rfl
@[simp] theorem State.setPlanned_axes (s : State) (p : Port) (a : Axis) (v : Option Int) : (s.setPlanned p a v).axes = s.axes := rfl
@[simp] theorem State.setPlanned_zones (s : State) (p : Port) (a : Axis) (v : Option Int) : (s.setPlanned p a v).zones = s.zones := rfl
@[simp] theorem State.setPlanned_hands (s : State) (p : Port) (a : Axis) (v : Option Int) : (s.setPlanned p a v).hands = s.hands := rfl
@[simp] theorem State.setPlanned_hyd (s : State) (p : Port) (a : Axis) (v : Option Int) : (s.setPlanned p a v).hyd = s.hyd := rfl
@[simp] theorem State.setPlanned_clamps (s : State) (p : Port) (a : Axis) (v : Option Int) : (s.setPlanned p a v).clamps = s.clamps := rfl
@[simp] theorem State.setPlanned_spindle (s : State) (p : Port) (a : Axis) (v : Option Int) : (s.setPlanned p a v).spindle = s.spindle := rfl
@[simp] theorem State.setPlanned_coolant (s : State) (p : Port) (a : Axis) (v : Option Int) : (s.setPlanned p a v).coolant = s.coolant := rfl
@[simp] theorem State.setPlanned_ports (s : State) (p : Port) (a : Axis) (v : Option Int) : (s.setPlanned p a v).ports = s.ports := rfl

/-! ### State.updSpindle -/

@[simp] theorem State.updSpindle_pending (s : State) (f : Spindle → Spindle) : (s.updSpindle f).pending = s.pending := rfl
@[simp] theorem State.updSpindle_now (s : State) (f : Spindle → Spindle) : (s.updSpindle f).now = s.now := rfl
@[simp] theorem State.updSpindle_choices (s : State) (f : Spindle → Spindle) : (s.updSpindle f).choices = s.choices := rfl
@[simp] theorem State.updSpindle_machine (s : State) (f : Spindle → Spindle) : (s.updSpindle f).machine = s.machine := rfl
@[simp] theorem State.updSpindle_holds (s : State) (f : Spindle → Spindle) : (s.updSpindle f).holds = s.holds := rfl
@[simp] theorem State.updSpindle_overrides (s : State) (f : Spindle → Spindle) : (s.updSpindle f).overrides = s.overrides := rfl
@[simp] theorem State.updSpindle_inputs (s : State) (f : Spindle → Spindle) : (s.updSpindle f).inputs = s.inputs := rfl
@[simp] theorem State.updSpindle_conditioner (s : State) (f : Spindle → Spindle) : (s.updSpindle f).conditioner = s.conditioner := rfl
@[simp] theorem State.updSpindle_config (s : State) (f : Spindle → Spindle) : (s.updSpindle f).config = s.config := rfl
@[simp] theorem State.updSpindle_store (s : State) (f : Spindle → Spindle) : (s.updSpindle f).store = s.store := rfl
@[simp] theorem State.updSpindle_serial (s : State) (f : Spindle → Spindle) : (s.updSpindle f).serial = s.serial := rfl
@[simp] theorem State.updSpindle_claims (s : State) (f : Spindle → Spindle) : (s.updSpindle f).claims = s.claims := rfl
@[simp] theorem State.updSpindle_queues (s : State) (f : Spindle → Spindle) : (s.updSpindle f).queues = s.queues := rfl
@[simp] theorem State.updSpindle_planned (s : State) (f : Spindle → Spindle) : (s.updSpindle f).planned = s.planned := rfl
@[simp] theorem State.updSpindle_moves (s : State) (f : Spindle → Spindle) : (s.updSpindle f).moves = s.moves := rfl
@[simp] theorem State.updSpindle_latch (s : State) (f : Spindle → Spindle) : (s.updSpindle f).latch = s.latch := rfl
@[simp] theorem State.updSpindle_probes (s : State) (f : Spindle → Spindle) : (s.updSpindle f).probes = s.probes := rfl
@[simp] theorem State.updSpindle_axes (s : State) (f : Spindle → Spindle) : (s.updSpindle f).axes = s.axes := rfl
@[simp] theorem State.updSpindle_zones (s : State) (f : Spindle → Spindle) : (s.updSpindle f).zones = s.zones := rfl
@[simp] theorem State.updSpindle_hands (s : State) (f : Spindle → Spindle) : (s.updSpindle f).hands = s.hands := rfl
@[simp] theorem State.updSpindle_hyd (s : State) (f : Spindle → Spindle) : (s.updSpindle f).hyd = s.hyd := rfl
@[simp] theorem State.updSpindle_clamps (s : State) (f : Spindle → Spindle) : (s.updSpindle f).clamps = s.clamps := rfl
@[simp] theorem State.updSpindle_spindle (s : State) (f : Spindle → Spindle) : (s.updSpindle f).spindle = f s.spindle := rfl
@[simp] theorem State.updSpindle_coolant (s : State) (f : Spindle → Spindle) : (s.updSpindle f).coolant = s.coolant := rfl
@[simp] theorem State.updSpindle_ports (s : State) (f : Spindle → Spindle) : (s.updSpindle f).ports = s.ports := rfl

/-! ### State.updCoolant -/

@[simp] theorem State.updCoolant_pending (s : State) (f : Coolant → Coolant) : (s.updCoolant f).pending = s.pending := rfl
@[simp] theorem State.updCoolant_now (s : State) (f : Coolant → Coolant) : (s.updCoolant f).now = s.now := rfl
@[simp] theorem State.updCoolant_choices (s : State) (f : Coolant → Coolant) : (s.updCoolant f).choices = s.choices := rfl
@[simp] theorem State.updCoolant_machine (s : State) (f : Coolant → Coolant) : (s.updCoolant f).machine = s.machine := rfl
@[simp] theorem State.updCoolant_holds (s : State) (f : Coolant → Coolant) : (s.updCoolant f).holds = s.holds := rfl
@[simp] theorem State.updCoolant_overrides (s : State) (f : Coolant → Coolant) : (s.updCoolant f).overrides = s.overrides := rfl
@[simp] theorem State.updCoolant_inputs (s : State) (f : Coolant → Coolant) : (s.updCoolant f).inputs = s.inputs := rfl
@[simp] theorem State.updCoolant_conditioner (s : State) (f : Coolant → Coolant) : (s.updCoolant f).conditioner = s.conditioner := rfl
@[simp] theorem State.updCoolant_config (s : State) (f : Coolant → Coolant) : (s.updCoolant f).config = s.config := rfl
@[simp] theorem State.updCoolant_store (s : State) (f : Coolant → Coolant) : (s.updCoolant f).store = s.store := rfl
@[simp] theorem State.updCoolant_serial (s : State) (f : Coolant → Coolant) : (s.updCoolant f).serial = s.serial := rfl
@[simp] theorem State.updCoolant_claims (s : State) (f : Coolant → Coolant) : (s.updCoolant f).claims = s.claims := rfl
@[simp] theorem State.updCoolant_queues (s : State) (f : Coolant → Coolant) : (s.updCoolant f).queues = s.queues := rfl
@[simp] theorem State.updCoolant_planned (s : State) (f : Coolant → Coolant) : (s.updCoolant f).planned = s.planned := rfl
@[simp] theorem State.updCoolant_moves (s : State) (f : Coolant → Coolant) : (s.updCoolant f).moves = s.moves := rfl
@[simp] theorem State.updCoolant_latch (s : State) (f : Coolant → Coolant) : (s.updCoolant f).latch = s.latch := rfl
@[simp] theorem State.updCoolant_probes (s : State) (f : Coolant → Coolant) : (s.updCoolant f).probes = s.probes := rfl
@[simp] theorem State.updCoolant_axes (s : State) (f : Coolant → Coolant) : (s.updCoolant f).axes = s.axes := rfl
@[simp] theorem State.updCoolant_zones (s : State) (f : Coolant → Coolant) : (s.updCoolant f).zones = s.zones := rfl
@[simp] theorem State.updCoolant_hands (s : State) (f : Coolant → Coolant) : (s.updCoolant f).hands = s.hands := rfl
@[simp] theorem State.updCoolant_hyd (s : State) (f : Coolant → Coolant) : (s.updCoolant f).hyd = s.hyd := rfl
@[simp] theorem State.updCoolant_clamps (s : State) (f : Coolant → Coolant) : (s.updCoolant f).clamps = s.clamps := rfl
@[simp] theorem State.updCoolant_spindle (s : State) (f : Coolant → Coolant) : (s.updCoolant f).spindle = s.spindle := rfl
@[simp] theorem State.updCoolant_coolant (s : State) (f : Coolant → Coolant) : (s.updCoolant f).coolant = f s.coolant := rfl
@[simp] theorem State.updCoolant_ports (s : State) (f : Coolant → Coolant) : (s.updCoolant f).ports = s.ports := rfl

/-! ### State.updHyd -/

@[simp] theorem State.updHyd_pending (s : State) (f : Hyd → Hyd) : (s.updHyd f).pending = s.pending := rfl
@[simp] theorem State.updHyd_now (s : State) (f : Hyd → Hyd) : (s.updHyd f).now = s.now := rfl
@[simp] theorem State.updHyd_choices (s : State) (f : Hyd → Hyd) : (s.updHyd f).choices = s.choices := rfl
@[simp] theorem State.updHyd_machine (s : State) (f : Hyd → Hyd) : (s.updHyd f).machine = s.machine := rfl
@[simp] theorem State.updHyd_holds (s : State) (f : Hyd → Hyd) : (s.updHyd f).holds = s.holds := rfl
@[simp] theorem State.updHyd_overrides (s : State) (f : Hyd → Hyd) : (s.updHyd f).overrides = s.overrides := rfl
@[simp] theorem State.updHyd_inputs (s : State) (f : Hyd → Hyd) : (s.updHyd f).inputs = s.inputs := rfl
@[simp] theorem State.updHyd_conditioner (s : State) (f : Hyd → Hyd) : (s.updHyd f).conditioner = s.conditioner := rfl
@[simp] theorem State.updHyd_config (s : State) (f : Hyd → Hyd) : (s.updHyd f).config = s.config := rfl
@[simp] theorem State.updHyd_store (s : State) (f : Hyd → Hyd) : (s.updHyd f).store = s.store := rfl
@[simp] theorem State.updHyd_serial (s : State) (f : Hyd → Hyd) : (s.updHyd f).serial = s.serial := rfl
@[simp] theorem State.updHyd_claims (s : State) (f : Hyd → Hyd) : (s.updHyd f).claims = s.claims := rfl
@[simp] theorem State.updHyd_queues (s : State) (f : Hyd → Hyd) : (s.updHyd f).queues = s.queues := rfl
@[simp] theorem State.updHyd_planned (s : State) (f : Hyd → Hyd) : (s.updHyd f).planned = s.planned := rfl
@[simp] theorem State.updHyd_moves (s : State) (f : Hyd → Hyd) : (s.updHyd f).moves = s.moves := rfl
@[simp] theorem State.updHyd_latch (s : State) (f : Hyd → Hyd) : (s.updHyd f).latch = s.latch := rfl
@[simp] theorem State.updHyd_probes (s : State) (f : Hyd → Hyd) : (s.updHyd f).probes = s.probes := rfl
@[simp] theorem State.updHyd_axes (s : State) (f : Hyd → Hyd) : (s.updHyd f).axes = s.axes := rfl
@[simp] theorem State.updHyd_zones (s : State) (f : Hyd → Hyd) : (s.updHyd f).zones = s.zones := rfl
@[simp] theorem State.updHyd_hands (s : State) (f : Hyd → Hyd) : (s.updHyd f).hands = s.hands := rfl
@[simp] theorem State.updHyd_hyd (s : State) (f : Hyd → Hyd) : (s.updHyd f).hyd = f s.hyd := rfl
@[simp] theorem State.updHyd_clamps (s : State) (f : Hyd → Hyd) : (s.updHyd f).clamps = s.clamps := rfl
@[simp] theorem State.updHyd_spindle (s : State) (f : Hyd → Hyd) : (s.updHyd f).spindle = s.spindle := rfl
@[simp] theorem State.updHyd_coolant (s : State) (f : Hyd → Hyd) : (s.updHyd f).coolant = s.coolant := rfl
@[simp] theorem State.updHyd_ports (s : State) (f : Hyd → Hyd) : (s.updHyd f).ports = s.ports := rfl

/-! ### State.setRow -/

@[simp] theorem State.setRow_pending (s : State) (r : Resource) (w : ClaimRow) : (s.setRow r w).pending = s.pending := rfl
@[simp] theorem State.setRow_now (s : State) (r : Resource) (w : ClaimRow) : (s.setRow r w).now = s.now := rfl
@[simp] theorem State.setRow_choices (s : State) (r : Resource) (w : ClaimRow) : (s.setRow r w).choices = s.choices := rfl
@[simp] theorem State.setRow_machine (s : State) (r : Resource) (w : ClaimRow) : (s.setRow r w).machine = s.machine := rfl
@[simp] theorem State.setRow_holds (s : State) (r : Resource) (w : ClaimRow) : (s.setRow r w).holds = s.holds := rfl
@[simp] theorem State.setRow_overrides (s : State) (r : Resource) (w : ClaimRow) : (s.setRow r w).overrides = s.overrides := rfl
@[simp] theorem State.setRow_inputs (s : State) (r : Resource) (w : ClaimRow) : (s.setRow r w).inputs = s.inputs := rfl
@[simp] theorem State.setRow_conditioner (s : State) (r : Resource) (w : ClaimRow) : (s.setRow r w).conditioner = s.conditioner := rfl
@[simp] theorem State.setRow_config (s : State) (r : Resource) (w : ClaimRow) : (s.setRow r w).config = s.config := rfl
@[simp] theorem State.setRow_store (s : State) (r : Resource) (w : ClaimRow) : (s.setRow r w).store = s.store := rfl
@[simp] theorem State.setRow_serial (s : State) (r : Resource) (w : ClaimRow) : (s.setRow r w).serial = s.serial := rfl
@[simp] theorem State.setRow_claims (s : State) (r : Resource) (w : ClaimRow) : (s.setRow r w).claims = s.claims.setRow r w := rfl
@[simp] theorem State.setRow_queues (s : State) (r : Resource) (w : ClaimRow) : (s.setRow r w).queues = s.queues := rfl
@[simp] theorem State.setRow_planned (s : State) (r : Resource) (w : ClaimRow) : (s.setRow r w).planned = s.planned := rfl
@[simp] theorem State.setRow_moves (s : State) (r : Resource) (w : ClaimRow) : (s.setRow r w).moves = s.moves := rfl
@[simp] theorem State.setRow_latch (s : State) (r : Resource) (w : ClaimRow) : (s.setRow r w).latch = s.latch := rfl
@[simp] theorem State.setRow_probes (s : State) (r : Resource) (w : ClaimRow) : (s.setRow r w).probes = s.probes := rfl
@[simp] theorem State.setRow_axes (s : State) (r : Resource) (w : ClaimRow) : (s.setRow r w).axes = s.axes := rfl
@[simp] theorem State.setRow_zones (s : State) (r : Resource) (w : ClaimRow) : (s.setRow r w).zones = s.zones := rfl
@[simp] theorem State.setRow_hands (s : State) (r : Resource) (w : ClaimRow) : (s.setRow r w).hands = s.hands := rfl
@[simp] theorem State.setRow_hyd (s : State) (r : Resource) (w : ClaimRow) : (s.setRow r w).hyd = s.hyd := rfl
@[simp] theorem State.setRow_clamps (s : State) (r : Resource) (w : ClaimRow) : (s.setRow r w).clamps = s.clamps := rfl
@[simp] theorem State.setRow_spindle (s : State) (r : Resource) (w : ClaimRow) : (s.setRow r w).spindle = s.spindle := rfl
@[simp] theorem State.setRow_coolant (s : State) (r : Resource) (w : ClaimRow) : (s.setRow r w).coolant = s.coolant := rfl
@[simp] theorem State.setRow_ports (s : State) (r : Resource) (w : ClaimRow) : (s.setRow r w).ports = s.ports := rfl

/-! ### The conditioner -/

@[simp] theorem Conditioner.get_set_same (c : Conditioner) (i : SwitchInput) (t : Timer) : (c.set i t).get i = t := by
  cases i with
  | clamp a which => cases which <;> simp [Conditioner.get, Conditioner.set]
  | gear g => cases g <;> rfl
  | home a => simp [Conditioner.get, Conditioner.set]
  | driveReady a => simp [Conditioner.get, Conditioner.set]
  | _ => rfl

theorem Conditioner.get_set_ne (c : Conditioner) {i j : SwitchInput} (t : Timer) (h : j ≠ i) : (c.set i t).get j = c.get j := by
  cases i with
  | clamp a which =>
    cases j with
    | clamp c other => cases which <;> cases other <;> first | rfl | exact PerAxis.get_set_ne _ _ (fun e => h (e ▸ rfl))
    | gear g => cases which <;> cases g <;> rfl
    | _ => cases which <;> rfl
  | gear g =>
    cases j with
    | clamp c other => cases g <;> cases other <;> rfl
    | gear k => cases g <;> cases k <;> first | rfl | exact absurd rfl h
    | _ => cases g <;> rfl
  | home a =>
    cases j with
    | clamp c other => cases other <;> rfl
    | gear g => cases g <;> rfl
    | home c => exact PerAxis.get_set_ne _ _ (fun e => h (e ▸ rfl))
    | _ => rfl
  | driveReady a =>
    cases j with
    | clamp c other => cases other <;> rfl
    | gear g => cases g <;> rfl
    | driveReady c => exact PerAxis.get_set_ne _ _ (fun e => h (e ▸ rfl))
    | _ => rfl
  | _ =>
    cases j with
    | clamp c other => cases other <;> rfl
    | gear g => cases g <;> rfl
    | _ => first | rfl | exact absurd rfl h

@[simp] theorem State.setDebounce_inputs (s : State) (i : SwitchInput) (t : Timer) : (s.setDebounce i t).inputs = s.inputs := rfl

@[simp] theorem State.setDebounce_conditioner (s : State) (i : SwitchInput) (t : Timer) :
    (s.setDebounce i t).conditioner = s.conditioner.set i t := rfl

@[simp] theorem State.row_setRow_same (s : State) (r : Resource) (w : ClaimRow) : (s.setRow r w).row r = w :=
  Claims.row_setRow_same _ _ _

theorem State.row_setRow_ne (s : State) {r q : Resource} (w : ClaimRow) (h : q ≠ r) : (s.setRow r w).row q = s.row q :=
  Claims.row_setRow_ne _ _ h

end Machine

end Sys2Proof
end

