-- ==== Sys2Proof/Laws/Follows.lean ====
section
/-! SUPPORT. Laws/Follows.lean: every operation the blocks make while they act on a change keeps what `Follows` names; so settling
does (`State.settle_follows`). -/

namespace Sys2Proof.Safety

open Sys2Proof.Machine

/-! ### The relation -/

theorem AxisKept.self (u : AxisUnit) : AxisKept u u := ⟨rfl, rfl, rfl, rfl, rfl, rfl, rfl, rfl, rfl⟩

theorem AxisKept.trans {u v w : AxisUnit} (h : AxisKept u v) (k : AxisKept v w) : AxisKept u w :=
  ⟨k.1.trans h.1, k.2.trans h.2, k.3.trans h.3, k.4.trans h.4, k.5.trans h.5, k.6.trans h.6, k.7.trans h.7, k.8.trans h.8,
    k.9.trans h.9⟩

theorem PortKept.self (l : LinkPort) : PortKept l l := ⟨rfl, rfl, rfl, rfl, rfl, rfl, List.prefix_refl _⟩

theorem PortKept.trans {l m n : LinkPort} (h : PortKept l m) (k : PortKept m n) : PortKept l n :=
  ⟨k.1.trans h.1, k.2.trans h.2, k.3.trans h.3, k.4.trans h.4, k.5.trans h.5, k.6.trans h.6, h.7.trans k.7⟩

theorem TachKept.self (u : Spindle) : TachKept u u := ⟨rfl, rfl, rfl, rfl⟩

theorem TachKept.trans {u v w : Spindle} (h : TachKept u v) (k : TachKept v w) : TachKept u w :=
  ⟨k.1.trans h.1, k.2.trans h.2, k.3.trans h.3, k.4.trans h.4⟩

theorem Follows.refl (s : State) : Follows s s :=
  ⟨rfl, rfl, rfl, rfl, rfl, rfl, rfl, rfl, rfl, rfl, rfl, rfl, fun _ => AxisKept.self _, TachKept.self _, fun _ => PortKept.self _,
    fun _ _ => rfl⟩

theorem orphanedFrom_of_row {s t : State} {r : Resource} (h : t.row r = s.row r) : t.orphanedFrom r = s.orphanedFrom r := by
  simp only [State.orphanedFrom, h]

theorem Follows.trans {s t u : State} (h : Follows s t) (k : Follows t u) : Follows s u :=
  ⟨k.1.trans h.1, k.2.trans h.2, k.3.trans h.3, k.4.trans h.4, k.5.trans h.5, k.6.trans h.6, k.7.trans h.7, k.8.trans h.8,
    k.9.trans h.9, k.10.trans h.10, k.11.trans h.11, k.12.trans h.12, fun a => (h.13 a).trans (k.13 a), h.14.trans k.14,
    fun p => (h.15 p).trans (k.15 p),
    fun r hr => (k.16 r (by rw [orphanedFrom_of_row (h.16 r hr)]; exact hr)).trans (h.16 r hr)⟩

end Sys2Proof.Safety

namespace Sys2Proof.Machine

open Sys2Proof.Safety

/-! ### Updates -/

theorem follows_updAxis (s : State) (a : Axis) (f : AxisUnit → AxisUnit) 
    (h : ∀ u, AxisKept u (f u) := by intro u; exact ⟨rfl, rfl, rfl, rfl, rfl, rfl, rfl, rfl, rfl⟩) :
    Follows s (s.updAxis a f) :=
  ⟨rfl, rfl, rfl, rfl, rfl, rfl, rfl, rfl, rfl, rfl, rfl, rfl,
    fun c => by
      simp only [State.updAxis_axes, PerAxis.get_set]
      split
      · subst_vars; exact h _
      · exact AxisKept.self _,
    TachKept.self _, fun _ => PortKept.self _, fun _ _ => rfl⟩

theorem follows_updPort (s : State) (p : Port) (f : LinkPort → LinkPort) 
    (h : ∀ l, PortKept l (f l) := by intro l; exact ⟨rfl, rfl, rfl, rfl, rfl, rfl, List.prefix_refl _⟩) :
    Follows s (s.updPort p f) :=
  ⟨rfl, rfl, rfl, rfl, rfl, rfl, rfl, rfl, rfl, rfl, rfl, rfl, fun _ => AxisKept.self _, TachKept.self _,
    fun q => by
      simp only [State.updPort_ports, PerPort.get_set]
      split
      · subst_vars; exact h _
      · exact PortKept.self _,
    fun _ _ => rfl⟩

theorem follows_updSpindle (s : State) (f : Spindle → Spindle) 
    (h : ∀ u, TachKept u (f u) := by intro u; exact ⟨rfl, rfl, rfl, rfl⟩) : Follows s (s.updSpindle f) :=
  ⟨rfl, rfl, rfl, rfl, rfl, rfl, rfl, rfl, rfl, rfl, rfl, rfl, fun _ => AxisKept.self _, h _, fun _ => PortKept.self _,
    fun _ _ => rfl⟩

theorem follows_updClamp (s : State) (a : Axis) (f : Clamp → Clamp) : Follows s (s.updClamp a f) :=
  ⟨rfl, rfl, rfl, rfl, rfl, rfl, rfl, rfl, rfl, rfl, rfl, rfl, fun _ => AxisKept.self _, TachKept.self _, fun _ => PortKept.self _,
    fun _ _ => rfl⟩

theorem follows_updHand (s : State) (a : Axis) (f : Hand → Hand) : Follows s (s.updHand a f) :=
  ⟨rfl, rfl, rfl, rfl, rfl, rfl, rfl, rfl, rfl, rfl, rfl, rfl, fun _ => AxisKept.self _, TachKept.self _, fun _ => PortKept.self _,
    fun _ _ => rfl⟩

theorem follows_updQueue (s : State) (p : Port) (f : Queue → Queue) : Follows s (s.updQueue p f) :=
  ⟨rfl, rfl, rfl, rfl, rfl, rfl, rfl, rfl, rfl, rfl, rfl, rfl, fun _ => AxisKept.self _, TachKept.self _, fun _ => PortKept.self _,
    fun _ _ => rfl⟩

theorem follows_setMove (s : State) (p : Port) (m : Option Move) : Follows s (s.setMove p m) :=
  ⟨rfl, rfl, rfl, rfl, rfl, rfl, rfl, rfl, rfl, rfl, rfl, rfl, fun _ => AxisKept.self _, TachKept.self _, fun _ => PortKept.self _,
    fun _ _ => rfl⟩

theorem follows_setPlanned (s : State) (p : Port) (a : Axis) (v : Option Int) : Follows s (s.setPlanned p a v) :=
  ⟨rfl, rfl, rfl, rfl, rfl, rfl, rfl, rfl, rfl, rfl, rfl, rfl, fun _ => AxisKept.self _, TachKept.self _, fun _ => PortKept.self _,
    fun _ _ => rfl⟩

theorem follows_updCoolant (s : State) (f : Coolant → Coolant) : Follows s (s.updCoolant f) :=
  ⟨rfl, rfl, rfl, rfl, rfl, rfl, rfl, rfl, rfl, rfl, rfl, rfl, fun _ => AxisKept.self _, TachKept.self _, fun _ => PortKept.self _,
    fun _ _ => rfl⟩

theorem follows_updHyd (s : State) (f : Hyd → Hyd) : Follows s (s.updHyd f) :=
  ⟨rfl, rfl, rfl, rfl, rfl, rfl, rfl, rfl, rfl, rfl, rfl, rfl, fun _ => AxisKept.self _, TachKept.self _, fun _ => PortKept.self _,
    fun _ _ => rfl⟩

theorem follows_latch (s : State) (l : ProbeLatch) : Follows s { s with latch := l } :=
  ⟨rfl, rfl, rfl, rfl, rfl, rfl, rfl, rfl, rfl, rfl, rfl, rfl, fun _ => AxisKept.self _, TachKept.self _, fun _ => PortKept.self _,
    fun _ _ => rfl⟩

theorem follows_planned (s : State) (l : PerPort (PerAxis (Option Int))) : Follows s { s with planned := l } :=
  ⟨rfl, rfl, rfl, rfl, rfl, rfl, rfl, rfl, rfl, rfl, rfl, rfl, fun _ => AxisKept.self _, TachKept.self _, fun _ => PortKept.self _,
    fun _ _ => rfl⟩

theorem follows_choices (s : State) (n : Nat) : Follows s { s with choices := n } :=
  ⟨rfl, rfl, rfl, rfl, rfl, rfl, rfl, rfl, rfl, rfl, rfl, rfl, fun _ => AxisKept.self _, TachKept.self _, fun _ => PortKept.self _,
    fun _ _ => rfl⟩

theorem follows_stopSent (s : State) (f : Bool) : Follows s { s with claims := { s.claims with spindleStopSent := f } } :=
  ⟨rfl, rfl, rfl, rfl, rfl, rfl, rfl, rfl, rfl, rfl, rfl, rfl, fun _ => AxisKept.self _, TachKept.self _, fun _ => PortKept.self _,
    fun r _ => by cases r <;> rfl⟩

/-- A row that is ORPHANED may be replaced. -/
theorem follows_setRow (s : State) (r : Resource) (w : ClaimRow) (h : s.orphanedFrom r ≠ none) : Follows s (s.setRow r w) :=
  ⟨rfl, rfl, rfl, rfl, rfl, rfl, rfl, rfl, rfl, rfl, rfl, rfl, fun _ => AxisKept.self _, TachKept.self _, fun _ => PortKept.self _,
    fun _ hq => State.row_setRow_ne _ _ (fun e => h (e ▸ hq))⟩

/-- A fold of operations that keep it keeps it. -/
theorem follows_foldl {β : Type} (f : State → β → State) (h : ∀ s b, Follows s (f s b)) (l : List β) (s : State) :
    Follows s (l.foldl f s) := by
  induction l generalizing s with
  | nil => exact Follows.refl s
  | cons b l ih => exact (h s b).trans (ih _)

/-! ### Events -/

theorem LinkPort.raise_kept (l : LinkPort) (e : Event) : PortKept l (l.raise e) := by
  unfold LinkPort.raise
  split
  · exact PortKept.self l
  · split
    · exact ⟨rfl, rfl, rfl, rfl, rfl, rfl, List.prefix_append _ _⟩
    · exact ⟨rfl, rfl, rfl, rfl, rfl, rfl, List.prefix_refl _⟩

theorem State.raise_follows (s : State) (p : Port) (e : Event) : Follows s (s.raise p e) :=
  follows_updPort s p _ (fun l => LinkPort.raise_kept l e)

theorem State.raiseHolder_follows (s : State) (r : Resource) (e : Event) : Follows s (s.raiseHolder r e) := by
  unfold State.raiseHolder
  split
  · exact State.raise_follows _ _ _
  · exact Follows.refl s

theorem State.raiseWhere_follows (s : State) (test : Port → Bool) (e : Event) : Follows s (s.raiseWhere test e) :=
  follows_foldl _ (fun s p => by
    split
    · exact State.raise_follows _ _ _
    · exact Follows.refl s) _ s

/-! ### Clamps, hydraulics and axis faults -/

theorem State.setEngaging_follows (s : State) (a : Axis) : Follows s (s.setEngaging a) :=
  (follows_updClamp _ _ _).trans (follows_updHand _ _ _)

theorem State.engageRequest_follows (s : State) (a : Axis) : Follows s (s.engageRequest a) := by
  unfold State.engageRequest
  split
  · exact State.setEngaging_follows s a
  · exact Follows.refl s

theorem State.engageIfAuto_follows (s : State) (a : Axis) : Follows s (s.engageIfAuto a) := by
  unfold State.engageIfAuto
  split
  · exact State.engageRequest_follows s a
  · exact Follows.refl s

theorem State.engageAtRest_follows (s : State) (a : Axis) : Follows s (s.engageAtRest a) := by
  unfold State.engageAtRest
  split
  · exact State.engageIfAuto_follows s a
  · exact Follows.refl s

theorem State.latchFault_follows (s : State) (a : Axis) (c : AxisCause) : Follows s (s.latchFault a c) :=
  ((follows_updAxis s a _).trans
    (State.raiseHolder_follows _ _ _)).trans (follows_updHand _ _ _)

theorem State.axisFault_follows (s : State) (a : Axis) (c : AxisCause) : Follows s (s.axisFault a c) := by
  unfold State.axisFault
  split
  · exact Follows.refl s
  · exact (State.latchFault_follows s a c).trans (State.engageRequest_follows _ _)

theorem State.setClampFault_follows (s : State) (a : Axis) (c : ClampCause) : Follows s (s.setClampFault a c) :=
  ((follows_updClamp _ _ _).trans (State.raiseHolder_follows _ _ _)).trans (follows_updHand _ _ _)

theorem State.clampFails_follows (s : State) (a : Axis) (c : ClampCause) : Follows s (s.clampFails a c) := by
  unfold State.clampFails
  split
  · exact (State.setClampFault_follows s a c).trans (State.axisFault_follows _ _ _)
  · exact State.setClampFault_follows s a c

theorem State.dropClamp_follows (was s : State) (a : Axis) : Follows s (State.dropClamp was s a) := by
  unfold State.dropClamp
  split
  · split
    · exact (State.setEngaging_follows s a).trans (State.axisFault_follows _ _ _)
    · exact State.setEngaging_follows s a
  · exact Follows.refl s

theorem State.dropClamps_follows (was s : State) : Follows s (State.dropClamps was s) :=
  follows_foldl _ (fun s a => State.dropClamp_follows was s a) _ s

theorem State.spindleFault_follows (s : State) (c : GearCause) : Follows s (s.spindleFault c) := by
  unfold State.spindleFault
  split
  · exact Follows.refl s
  · exact (follows_updSpindle s _).trans (State.raiseHolder_follows _ _ _)

theorem State.hydLost_follows (s : State) : Follows s s.hydLost := by
  unfold State.hydLost
  have h := ((follows_updHyd s (fun _ => { Hyd.stopped with state := .lost })).trans
    (State.raiseWhere_follows _ s.holdsHydraulic .hydraulicLost)).trans (State.dropClamps_follows s _)
  dsimp only
  split
  · exact h.trans (State.spindleFault_follows _ _)
  · exact h

theorem State.hydFollow_follows (s : State) : Follows s s.hydFollow := by
  unfold State.hydFollow
  repeat' split
  all_goals first | exact follows_updHyd s _ | exact Follows.refl s

theorem State.clampPressure_follows (s : State) (a : Axis) : Follows s (s.clampPressure a) := by
  unfold State.clampPressure
  split
  · exact follows_updClamp s a _
  · exact Follows.refl s

theorem State.clampAgree_follows (s : State) (a : Axis) : Follows s (s.clampAgree a) := by
  unfold State.clampAgree
  repeat' split
  all_goals first | exact follows_updClamp s a _ | exact (follows_updClamp s a _).trans (follows_updHand _ a _) | exact Follows.refl s

theorem State.clampFollow_follows (s : State) (a : Axis) : Follows s (s.clampFollow a) := by
  unfold State.clampFollow
  split
  · exact Follows.refl s
  · exact (State.clampPressure_follows s a).trans (State.clampAgree_follows _ a)

theorem State.clampsFollow_follows (s : State) : Follows s s.clampsFollow :=
  follows_foldl _ State.clampFollow_follows _ s

theorem State.startRelease_follows (s : State) (a : Axis) (auto : Bool) : Follows s (s.startRelease a auto) := by
  unfold State.startRelease
  split
  · exact Follows.refl s
  · exact follows_updClamp s a _

theorem State.releaseAuto_follows (s : State) (a : Axis) : Follows s (s.releaseAuto a) := by
  unfold State.releaseAuto
  split
  all_goals first | exact State.startRelease_follows s a true | exact Follows.refl s

theorem State.clearAuto_follows (s : State) (a : Axis) : Follows s (s.clearAuto a) :=
  (follows_updClamp s a _).trans (follows_updHand _ a _)

theorem State.releaseDirect_follows (s : State) (a : Axis) : Follows s (s.releaseDirect a) := by
  unfold State.releaseDirect
  split
  all_goals first
    | exact (State.startRelease_follows s a false).trans (State.clearAuto_follows _ a)
    | exact State.clearAuto_follows s a
    | exact Follows.refl s

theorem State.clampRequest_follows (s : State) (action : ClampAction) (a : Axis) : Follows s (s.clampRequest action a) := by
  unfold State.clampRequest
  split
  · exact (State.clearAuto_follows s a).trans (State.engageRequest_follows _ a)
  · exact State.releaseDirect_follows s a

/-! ### Spindle and coolant -/

theorem State.atSpeedTest_follows (s : State) : Follows s s.atSpeedTest := by
  unfold State.atSpeedTest
  repeat' split
  all_goals exact follows_updSpindle s _

theorem State.atSpeedRestart_follows (s : State) : Follows s s.atSpeedRestart :=
  (follows_updSpindle s _).trans (State.atSpeedTest_follows _)

theorem State.enterRunning_follows (s : State) (r : GearRange) : Follows s (s.enterRunning r) := by
  unfold State.enterRunning
  dsimp only
  split
  · exact follows_updSpindle s _
  · exact (follows_updSpindle s _).trans (State.atSpeedRestart_follows _)

theorem State.enterStopping_follows (s : State) : Follows s s.enterStopping :=
  follows_updSpindle s _

theorem State.startShift_follows (s : State) (r : GearRange) : Follows s (s.startShift r) :=
  follows_updSpindle s _

theorem State.recordTarget_follows (s : State) (speed : Nat) (dir : SpinDir) : Follows s (s.recordTarget speed dir) :=
  follows_updSpindle s _

theorem State.takeTarget_follows (s : State) (speed : Nat) (dir : SpinDir) : Follows s (s.takeTarget speed dir) := by
  have hS : ∀ (t : State) (e : Nat), Follows t (t.updSpindle (fun sp => { sp with effective := e })) := fun t e =>
    follows_updSpindle t _
  unfold State.takeTarget
  repeat' split
  all_goals first
    | exact Follows.refl s
    | exact (State.recordTarget_follows s _ dir).trans (hS _ _)
    | exact (State.recordTarget_follows s _ dir).trans (State.enterRunning_follows _ _)
    | exact ((State.recordTarget_follows s _ dir).trans (hS _ _)).trans (State.startShift_follows _ _)
    | exact ((State.recordTarget_follows s _ dir).trans (hS _ _)).trans (State.enterStopping_follows _)

theorem State.enterCylinder_follows (s : State) (r : GearRange) (stage : ShiftStage) : Follows s (s.enterCylinder r stage) :=
  follows_updSpindle s _

theorem State.startRocking_follows (s : State) : Follows s s.startRocking := follows_updSpindle s _

theorem State.endHyd_follows (s : State) (r : GearRange) : Follows s (s.endHyd r) :=
  ((State.enterCylinder_follows s r _).trans (State.startRocking_follows _)).trans (follows_updSpindle _ _)

theorem State.endRocking_follows (s : State) : Follows s s.endRocking :=
  follows_updSpindle s _

theorem State.confirmShift_follows (s : State) (r : GearRange) : Follows s (s.confirmShift r) := by
  have hE : Follows s (s.updSpindle (fun sp => { sp with engaged := some r })) :=
    follows_updSpindle s _
  unfold State.confirmShift
  dsimp only
  repeat' split
  · exact hE.trans (follows_updSpindle _ _)
  · exact hE.trans (State.enterRunning_follows _ _)
  · exact hE.trans (State.startShift_follows _ _)
  · exact State.spindleFault_follows s _

theorem State.spindleFollow_follows (s : State) : Follows s s.spindleFollow := by
  unfold State.spindleFollow
  repeat' split
  all_goals first
    | exact Follows.refl s
    | exact follows_updSpindle s _
    | exact State.endHyd_follows s _
    | exact State.spindleFault_follows s _
    | exact (State.endRocking_follows s).trans (State.confirmShift_follows _ _)

theorem State.enterPriming_follows (s : State) : Follows s s.enterPriming := by
  unfold State.enterPriming
  split <;> exact follows_updCoolant s _

theorem State.bringThrough_follows (s : State) : Follows s s.bringThrough := by
  unfold State.bringThrough
  repeat' split
  all_goals first | exact Follows.refl s | exact follows_updCoolant s _ | exact State.enterPriming_follows s

theorem State.takeMode_follows (s : State) (m : CoolantMode) : Follows s (s.takeMode m) := by
  unfold State.takeMode
  split
  all_goals first
    | exact (follows_updCoolant s _ : Follows s s.coolantOff)
    | exact (follows_updCoolant s _).trans (State.bringThrough_follows _)

/-! ### Queues -/

theorem State.rebase_follows (s : State) (p : Port) (es : List Entry) : Follows s (s.rebase p es) := follows_planned s _

theorem State.dropMove_follows (s : State) (p : Port) : Follows s (s.dropMove p) := by
  unfold State.dropMove
  split
  · exact Follows.refl s
  · split
    · exact (follows_setMove s p none).trans (follows_foldl _ (fun t j =>
        follows_updAxis t _ _) _ _)
    all_goals exact follows_setMove s p none

theorem State.leaveLatch_follows (s : State) (p : Port) : Follows s (s.leaveLatch p) := follows_latch s _

theorem State.engageMove_follows (s : State) (k : EntryKind) : Follows s (s.engageMove k) :=
  follows_foldl _ State.engageAtRest_follows _ s

theorem State.failCore_follows (s : State) (p : Port) (e : Entry) (c : EntryError) : Follows s (s.failCore p e c) :=
  (((((State.dropMove_follows s p).trans (follows_updQueue _ p _)).trans (State.raise_follows _ p _)).trans
    (State.leaveLatch_follows _ p)).trans (State.engageMove_follows _ e.kind)).trans (State.rebase_follows _ p _)

theorem State.headWaits_follows (s : State) (p : Port) (k : EntryKind) (w : WaitStep) : Follows s (s.headWaits p k w) := by
  have h0 : Follows s (s.updQueue p (fun q => { q with head := .starting (some w) })) := follows_updQueue s p _
  cases w with
  | probeLatch => exact h0.trans (follows_latch _ _)
  | clamps => exact (h0.trans (State.leaveLatch_follows _ p)).trans (follows_foldl _ State.releaseAuto_follows _ _)
  | run => exact h0.trans (State.leaveLatch_follows _ p)
  | hand => exact h0.trans (State.leaveLatch_follows _ p)
  | takeUp => exact h0.trans (State.leaveLatch_follows _ p)
  | hold => exact h0.trans (State.leaveLatch_follows _ p)
  | standing => exact h0.trans (State.leaveLatch_follows _ p)

theorem State.enterMotion_follows (s : State) (p : Port) (e : Entry) : Follows s (s.enterMotion p e) := by
  have h0 : Follows s ((s.setMove p (some (s.moveOf e))).updQueue p (fun q => { q with head := .executing })) :=
    (follows_setMove s p _).trans (follows_updQueue _ p _)
  unfold State.enterMotion
  dsimp only
  split
  · exact h0.trans (follows_latch _ _)
  · exact h0.trans (follows_updAxis _ _ _)
  all_goals exact h0

theorem State.judgeMotionHead_follows (s : State) (p : Port) (e : Entry) : Follows s (s.judgeMotionHead p e) := by
  unfold State.judgeMotionHead
  split
  · exact State.failCore_follows s p e _
  · exact State.headWaits_follows s p _ _
  · exact State.enterMotion_follows s p e

theorem State.offerTo_follows (s : State) (p : Port) : Follows s (s.offerTo p) := by
  unfold State.offerTo
  repeat' split
  all_goals first | exact Follows.refl s | exact State.judgeMotionHead_follows s p _

theorem State.offerLatch_follows (s : State) : Follows s s.offerLatch := follows_foldl _ State.offerTo_follows _ s

theorem State.failHead_follows (s : State) (p : Port) (e : Entry) (c : EntryError) : Follows s (s.failHead p e c) := by
  unfold State.failHead
  split
  · exact (State.failCore_follows s p e c).trans (State.offerLatch_follows _)
  · exact State.failCore_follows s p e c

theorem State.finishHead_follows (s : State) (p : Port) (e : Entry) : Follows s (s.finishHead p e) :=
  (follows_updQueue s p _).trans (State.raise_follows _ p _)

theorem State.endLost_follows (s : State) (p : Port) : Follows s (s.endLost p) := by
  have h := ((State.dropMove_follows s p).trans (follows_updQueue _ p (fun _ => Queue.emptied))).trans
    (State.leaveLatch_follows _ p)
  unfold State.endLost
  dsimp only
  split
  · exact h.trans (State.offerLatch_follows _)
  · exact h

theorem State.endFlushed_abrupt_follows (s : State) (p : Port) (e : Entry) (m : Move) :
    Follows s (s.endFlushed p e m .abrupt) := by
  have h := (((((State.dropMove_follows s p).trans (follows_updQueue _ p (fun _ => Queue.emptied))).trans
    (State.raise_follows _ p (stoppingEvent e m .abrupt))).trans (State.leaveLatch_follows _ p)).trans
      (State.engageMove_follows _ e.kind)).trans (State.rebase_follows _ p [])
  have hr : stoppingReferences m .abrupt = false := by simp [stoppingReferences]
  unfold State.endFlushed
  simp only [hr, Bool.false_eq_true, if_false]
  split
  · exact h.trans (State.offerLatch_follows _)
  · exact h

theorem State.abruptStop_follows (s : State) (p : Port) : Follows s (s.abruptStop p) := by
  unfold State.abruptStop
  split
  · unfold State.endMove
    split
    · split
      · exact State.failHead_follows s p _ _
      · exact State.endFlushed_abrupt_follows s p _ _
      · exact State.endLost_follows s p
    · exact Follows.refl s
  · exact Follows.refl s

theorem State.watchHead_follows (s : State) (p : Port) (e : Entry) : Follows s (s.watchHead p e) := by
  unfold State.watchHead
  repeat' split
  all_goals first
    | exact Follows.refl s
    | exact State.finishHead_follows s p e
    | exact State.failCore_follows s p e _

theorem State.startHead_follows (s : State) (p : Port) (timer : Timer) : Follows s (s.startHead p timer) :=
  follows_updQueue s p _

theorem State.enterOther_follows (s : State) (p : Port) (e : Entry) : Follows s (s.enterOther p e) := by
  unfold State.enterOther
  repeat' split
  all_goals first
    | exact Follows.refl s
    | exact State.startHead_follows s p _
    | exact State.failCore_follows s p e _
    | exact (((State.takeTarget_follows s _ _).trans (State.finishHead_follows _ p e)).trans (State.spindleFollow_follows _)).trans
        (State.spindleFollow_follows _)
    | exact (State.takeMode_follows s _).trans (State.finishHead_follows _ p e)
    | exact (State.startHead_follows s p _).trans (State.watchHead_follows _ p e)
    | exact ((State.startHead_follows s p _).trans (follows_foldl _ (fun t a => State.clampRequest_follows t _ a) _ _)).trans
        (State.watchHead_follows _ p e)

theorem State.judgeOtherHead_follows (s : State) (p : Port) (e : Entry) : Follows s (s.judgeOtherHead p e) := by
  unfold State.judgeOtherHead
  split
  · exact State.failCore_follows s p e _
  · exact State.headWaits_follows s p _ _
  · exact State.enterOther_follows s p e

theorem State.pumpHead_follows (s : State) (p : Port) (trigger : Bool) : Follows s (s.pumpHead p trigger) := by
  unfold State.pumpHead
  repeat' split
  all_goals first
    | exact Follows.refl s
    | exact State.judgeMotionHead_follows s p _
    | exact State.judgeOtherHead_follows s p _
    | exact State.watchHead_follows s p _

theorem State.pump_follows (n : Nat) (s : State) (p : Port) (trigger : Bool) : Follows s (State.pump n s p trigger) := by
  induction n generalizing s trigger with
  | zero => exact Follows.refl s
  | succ n ih =>
    unfold State.pump
    dsimp only
    split
    · exact (State.pumpHead_follows s p trigger).trans (ih _ _)
    · exact State.pumpHead_follows s p trigger

theorem State.pumpChoice_follows (s : State) : Follows s s.pumpChoice := by
  unfold State.pumpChoice
  split
  · exact follows_choices s _
  · exact Follows.refl s

theorem State.queuesFollow_follows (old s : State) : Follows s (State.queuesFollow old s) :=
  ((follows_foldl _ State.abruptStop_follows _ s).trans (State.pumpChoice_follows _)).trans
    (follows_foldl _ (fun u p => State.pump_follows 17 u p _) _ _)

/-! ### Claims -/

theorem State.gain_follows (s : State) (p : Port) (r : Resource) : Follows s (s.gain p r) := by
  cases r with
  | axis a => exact follows_setPlanned s p a _
  | spindle => exact Follows.refl s
  | coolant => exact Follows.refl s

theorem State.passOn_follows (s : State) (r : Resource) (h : s.orphanedFrom r ≠ none) : Follows s (s.passOn r) := by
  unfold State.passOn
  split
  · exact follows_setRow s r _ h
  · exact ((follows_setRow s r _ h).trans (State.raise_follows _ _ _)).trans (State.gain_follows _ _ _)

theorem State.orphanAxis_follows (s : State) (a : Axis) : Follows s (s.orphanAxis a) := by
  unfold State.orphanAxis
  split
  next h =>
    have h' : s.orphanedFrom (.axis a) ≠ none := by
      intro e; rw [e] at h; exact absurd h (by decide)
    repeat' split
    all_goals first
      | exact State.passOn_follows s _ h'
      | exact State.engageRequest_follows s a
      | exact Follows.refl s
  next => exact Follows.refl s

theorem State.orphanSpindleStop_follows (s : State) : Follows s s.orphanSpindleStop := by
  unfold State.orphanSpindleStop
  repeat' split
  all_goals first
    | exact Follows.refl s
    | exact (follows_stopSent s true).trans (State.takeTarget_follows _ _ _)

theorem orphanedFrom_stopSent (s : State) (f : Bool) (r : Resource) :
    State.orphanedFrom { s with claims := { s.claims with spindleStopSent := f } } r = s.orphanedFrom r := by
  cases r <;> rfl

theorem State.orphanSpindle_follows (s : State) : Follows s s.orphanSpindle := by
  unfold State.orphanSpindle
  dsimp only
  split
  next h =>
    refine (State.orphanSpindleStop_follows s).trans ((follows_stopSent _ false).trans (State.passOn_follows _ _ ?_))
    rw [orphanedFrom_stopSent]
    intro e
    rw [e] at h
    simp at h
  next => exact State.orphanSpindleStop_follows s

theorem State.orphanCoolant_follows (s : State) : Follows s s.orphanCoolant := by
  unfold State.orphanCoolant
  split
  next h =>
    refine (follows_updCoolant s _ : Follows s s.coolantOff).trans (State.passOn_follows _ _ ?_)
    intro e
    have e' : s.orphanedFrom .coolant = none := e
    rw [e'] at h
    simp at h
  next => exact Follows.refl s

theorem State.claimsFollow_follows (s : State) : Follows s s.claimsFollow :=
  ((follows_foldl _ State.orphanAxis_follows _ s).trans (State.orphanSpindle_follows _)).trans (State.orphanCoolant_follows _)

/-! ### Settling -/

theorem State.unitsFollow_follows (s : State) : Follows s s.unitsFollow :=
  (((State.hydFollow_follows s).trans (State.clampsFollow_follows _)).trans (State.spindleFollow_follows _)).trans
    (State.hydFollow_follows _)

/-- Whatever every round keeps, settling keeps, up to the timers. -/
theorem State.settleLoop_keeps (P : State → Prop)
    (h : ∀ old s, P s → P (State.queuesFollow old s.unitsFollow).claimsFollow) (n : Nat) (old s : State) (hs : P s) :
    P (State.settleLoop n old s) := by
  induction n generalizing old s with
  | zero => exact hs
  | succ n ih =>
    unfold State.settleLoop
    dsimp only
    split
    · exact hs
    · exact ih _ _ (h old s hs)

theorem State.settleLoop_follows (n : Nat) (old s : State) : Follows s (State.settleLoop n old s) :=
  State.settleLoop_keeps (Follows s ·) (fun old t h =>
    h.trans (((State.unitsFollow_follows t).trans (State.queuesFollow_follows old _)).trans (State.claimsFollow_follows _)))
    n old s (Follows.refl s)

theorem State.timersFollow_follows (s : State) : Follows s s.timersFollow :=
  (follows_foldl State.silenceFollow (fun s p => follows_updPort s p _)
    _ s).trans (follows_foldl State.idleFollow (fun s a => follows_updHand s a _) _ _)

/-- Settling keeps what `Follows` names. -/
theorem State.settle_follows (old s : State) : Follows s (State.settle old s) :=
  (State.settleLoop_follows 64 old s).trans (State.timersFollow_follows _)

theorem State.restartSilence_follows (s : State) (p : Port) : Follows s (s.restartSilence p) := by
  unfold State.restartSilence
  split
  · exact follows_updPort s p _
  · exact Follows.refl s

/-- What a command's change leaves, with the other blocks' part in the same event. -/
theorem State.commit_follows (s t : State) (p : Port) (settles : Bool) (reply : List Byte) :
    Follows t (s.commit p { changed := some t, settles := settles, reply := reply }) := by
  unfold State.commit
  dsimp only
  split
  · exact (State.settle_follows s t).trans (State.restartSilence_follows _ p)
  · exact State.restartSilence_follows t p

/-! ### Switch rows -/

/-- A raw change touches the debounce timer of its input and nothing else. -/
theorem State.switchRow_raw (s : State) (i : SwitchInput) (active : Bool) (act : State → Bool → State) :
    s.switchRow i (.raw active) act = .next (s.setDebounce i (s.debounceTimer i active)) := rfl

/-- The end of a debounce time that does not run changes nothing. -/
theorem State.switchRow_stopped (s : State) (i : SwitchInput) (act : State → Bool → State) (h : s.conditioner.get i = none) :
    s.switchRow i .stood act = .next s := by
  simp [State.switchRow, h]

/-- The end of a running debounce time: the input's block acts on the other level, and the other blocks on what it changes. -/
theorem State.switchRow_running (s : State) (i : SwitchInput) (act : State → Bool → State) (h : s.conditioner.get i ≠ none) :
    ∃ t, s.switchRow i .stood act = .next t ∧ Follows (act (s.setDebounce i none) (!Inputs.level s.inputs i)) t := by
  have h' : (s.conditioner.get i).isSome = true := Option.isSome_iff_ne_none.mpr h
  exact ⟨State.settle s _, by simp [State.switchRow, h', State.event], State.settle_follows _ _⟩

end Sys2Proof.Machine
end

