-- ==== Sys2Proof/Laws/Links.lean ====
section
/-! SUPPORT. Laws/Links.lean: the bits of whole bytes make those bytes again, so a link row on a port that listens hands over its bytes
one after the other; what the events of select make of a port. -/

namespace Sys2Proof.Machine

open Sys2Proof.Safety

/-! ### Bits and bytes (R180) -/

/-- The eight bits of a byte make that byte, whatever follows them. -/
theorem wholeBytes_byte (v : Byte) (rest : List Bool) :
    wholeBytes (byteBits v ++ rest) = (v :: (wholeBytes rest).1, (wholeBytes rest).2) := by
  have h : ∀ v : Byte, enc1 (encBits [v.getLsbD 0, v.getLsbD 1, v.getLsbD 2, v.getLsbD 3, v.getLsbD 4, v.getLsbD 5, v.getLsbD 6,
      v.getLsbD 7]) = v := by decide +kernel
  simp only [byteBits, List.map, List.cons_append, List.nil_append, wholeBytes, h v]

/-- Fewer than eight bits make no byte. -/
theorem wholeBytes_short (bits : List Bool) (h : bits.length < 8) : wholeBytes bits = ([], bits) := by
  unfold wholeBytes
  split
  next => simp only [List.length_cons] at h; omega
  next => rfl

/-- Whole bytes, and fewer than eight bits after them, are read back as they were sent. -/
theorem wholeBytes_bytes (bs : List Byte) (bits : List Bool) (h : bits.length < 8) :
    wholeBytes (bs.flatMap byteBits ++ bits) = (bs, bits) := by
  induction bs with
  | nil => exact wholeBytes_short bits h
  | cons b bs ih => rw [List.flatMap_cons, List.append_assoc, wholeBytes_byte, ih]

/-- The bits left in progress are those over whole bytes. -/
theorem wholeBytes_length (bits : List Bool) : (wholeBytes bits).2.length = bits.length % 8 := by
  induction bits using wholeBytes.induct with
  | case1 b7 b6 b5 b4 b3 b2 b1 b0 rest ih => simp only [wholeBytes, List.length_cons, ih]; omega
  | case2 bits h =>
    rcases bits with _ | ⟨_, _ | ⟨_, _ | ⟨_, _ | ⟨_, _ | ⟨_, _ | ⟨_, _ | ⟨_, _ | ⟨_, t⟩⟩⟩⟩⟩⟩⟩⟩ <;>
      first | exact absurd rfl (h _ _ _ _ _ _ _ _ _) | simp [wholeBytes]

/-- No more than seven bits are left in progress. -/
theorem wholeBytes_left (bits : List Bool) : (wholeBytes bits).2.length < 8 := by
  rw [wholeBytes_length]; omega

/-! ### What a master clocks in (R180) -/

/-- While select is high nothing is clocked in. -/
theorem State.clockIn_high (s : State) (p : Port) (code : Byte) (c : Clocked) (h : (s.ports.get p).select = true) :
    s.clockIn p code c = s := by
  simp [State.clockIn, h]

/-- Every row that is a frame on a link clocks its bytes and bits in, whatever its command byte. -/
theorem exec_linkRow {i : Instr} {p : Port} {code : Byte} {c : Clocked} (h : linkRow i = some (p, code, c)) (s : State) :
    exec i s = .next (s.clockIn p code c) := by
  cases i <;> first | (simp only [linkRow, Option.some.injEq, Prod.mk.injEq] at h; obtain ⟨rfl, rfl, rfl⟩ := h; rfl) | cases h

/-- With select low and no byte in progress the bytes arrive as they were sent, and the bits after them stand in progress. -/
theorem State.clockIn_aligned (s : State) (p : Port) (code : Byte) (c : Clocked) (h : (s.ports.get p).select = false)
    (h0 : (s.ports.get p).bits = []) (hc : c.bits.length < 8) :
    s.clockIn p code c = ((code :: c.bytes).foldl (State.clockByte p) (s.setBits p [])).setBits p c.bits := by
  simp only [State.clockIn, h, h0, List.nil_append, wholeBytes_bytes _ _ hc, Bool.false_eq_true, if_false]

/-- A complete frame on a port that listens. -/
theorem State.clockIn_frame (s : State) (p : Port) (code : Byte) (ps : List Byte) (h : Listening s p) :
    s.clockIn p code (frame ps) = ((code :: enc1 ps.length :: ps).foldl (State.clockByte p) (s.setBits p [])).setBits p [] :=
  State.clockIn_aligned s p code (frame ps) h.2.2 h.2.1 (by simp [frame])

/-! ### Events of select (R182) -/

@[simp] theorem LinkPort.selectRise_phase (l : LinkPort) : l.selectRise.phase = l.phase := by
  unfold LinkPort.selectRise; split <;> rfl

@[simp] theorem LinkPort.selectRise_select (l : LinkPort) : l.selectRise.select = true := by
  unfold LinkPort.selectRise
  split
  next h => exact h
  next => rfl

@[simp] theorem LinkPort.selectFall_phase (l : LinkPort) : l.selectFall.phase = l.phase := rfl

@[simp] theorem LinkPort.selectFall_bits (l : LinkPort) : l.selectFall.bits = l.bits := rfl

@[simp] theorem LinkPort.selectFall_select (l : LinkPort) : l.selectFall.select = false := rfl

/-- No break is taken where the break time does not run. -/
theorem State.selectEvent_stopped (s : State) (p : Port) (h : (s.ports.get p).breakTimer = none) :
    s.selectEvent ⟨p, .stood⟩ = s := by
  simp [State.selectEvent, h]

/-- The end of a running break time is the break. -/
theorem State.selectEvent_break (s : State) (p : Port) (h : (s.ports.get p).breakTimer ≠ none) :
    s.selectEvent ⟨p, .stood⟩ = s.breakFrame p := by
  simp [State.selectEvent, Option.isSome_iff_ne_none.mpr h]

end Sys2Proof.Machine
end

