-- ==== Sys2Proof/Laws/Memory.lean ====
section
/-! SUPPORT. Laws/Memory.lean: every operation on the serial memory keeps its canonical form, and a read after a write gives the
byte written or the one that was there. -/

namespace Sys2Proof.Machine

/-- A memory canonical from an address on is canonical from every address before it. -/
theorem Memory.wfFrom_mono {lo lo' : Nat} {m : Memory} (h : lo' ≤ lo) (hm : Memory.wfFrom lo m = true) :
    Memory.wfFrom lo' m = true := by
  cases m with
  | nil => rfl
  | cons c m =>
    simp only [Memory.wfFrom, Bool.and_eq_true, decide_eq_true_eq] at hm ⊢
    exact ⟨⟨⟨Nat.le_trans h hm.1.1.1, hm.1.1.2⟩, hm.1.2⟩, hm.2⟩

theorem Memory.wfFrom_write {lo a : Nat} {m : Memory} (v : Byte) (hm : Memory.wfFrom lo m = true) (hlo : lo ≤ a)
    (ha : a < serialSize) : Memory.wfFrom lo (Memory.write m a v) = true := by
  induction m generalizing lo with
  | nil =>
    unfold Memory.write
    split
    · rfl
    · next h => simp [Memory.wfFrom, hlo, ha, h]
  | cons c m ih =>
    obtain ⟨k, w⟩ := c
    simp only [Memory.wfFrom, Bool.and_eq_true, decide_eq_true_eq] at hm
    obtain ⟨⟨⟨h1, h2⟩, h3⟩, h4⟩ := hm
    unfold Memory.write
    split
    · next hak =>
      split
      · simp [Memory.wfFrom, h1, h2, h3, h4]
      · next hv => simp [Memory.wfFrom, hlo, ha, hv, h2, h3, h4, Nat.succ_le_of_lt hak]
    · next hak =>
      split
      · next hk =>
        subst hk
        split
        · exact Memory.wfFrom_mono (Nat.le_succ_of_le h1) h4
        · next hv => simp [Memory.wfFrom, hlo, ha, hv, h4]
      · next hk =>
        have : k + 1 ≤ a := by omega
        simp [Memory.wfFrom, h1, h2, h3, ih h4 this]

/-- A write inside the memory keeps its canonical form. -/
theorem Memory.wf_write {m : Memory} {a : Nat} (v : Byte) (hm : Memory.wf m = true) (ha : a < serialSize) :
    Memory.wf (Memory.write m a v) = true :=
  Memory.wfFrom_write v hm (Nat.zero_le a) ha

/-- Writing bytes keeps the canonical form: none beyond the last address is written. -/
theorem Memory.wf_writeBytes {m : Memory} (a : Nat) (vs : List Byte) (hm : Memory.wf m = true) :
    Memory.wf (Memory.writeBytes m a vs) = true := by
  induction vs generalizing m a with
  | nil => exact hm
  | cons v vs ih =>
    unfold Memory.writeBytes
    apply ih
    split
    · next h => exact Memory.wf_write v hm h
    · exact hm

/-- An address before all that a memory lists reads as an unlisted one. -/
theorem Memory.read_of_lt {lo a : Nat} {m : Memory} (hm : Memory.wfFrom lo m = true) (h : a < lo) :
    Memory.read m a = unlistedByte := by
  induction m generalizing lo with
  | nil => rfl
  | cons c m ih =>
    obtain ⟨k, w⟩ := c
    simp only [Memory.wfFrom, Bool.and_eq_true, decide_eq_true_eq] at hm
    obtain ⟨⟨⟨h1, _⟩, _⟩, h4⟩ := hm
    unfold Memory.read
    rw [if_neg (by omega), ih h4 (by omega)]

theorem Memory.read_write_from {lo : Nat} {m : Memory} (hm : Memory.wfFrom lo m = true) (a b : Nat) (v : Byte) :
    Memory.read (Memory.write m a v) b = if b = a then v else Memory.read m b := by
  induction m generalizing lo with
  | nil =>
    unfold Memory.write
    split
    · next h => split <;> simp [Memory.read, h]
    · next h =>
      by_cases hb : b = a
      · simp [Memory.read, hb]
      · have : a ≠ b := fun e => hb e.symm
        simp [Memory.read, hb, this]
  | cons c m ih =>
    obtain ⟨k, w⟩ := c
    simp only [Memory.wfFrom, Bool.and_eq_true, decide_eq_true_eq] at hm
    obtain ⟨⟨⟨h1, h2⟩, h3⟩, h4⟩ := hm
    unfold Memory.write
    by_cases hak : a < k
    · rw [if_pos hak]
      by_cases hv : v = unlistedByte
      · rw [if_pos hv]
        by_cases hb : b = a
        · subst hb
          rw [if_pos rfl, hv, Memory.read, if_neg (by omega)]
          exact Memory.read_of_lt h4 (by omega)
        · rw [if_neg hb]
      · rw [if_neg hv]
        by_cases hb : b = a
        · simp [Memory.read, hb]
        · rw [if_neg hb, Memory.read, if_neg (fun e => hb e.symm)]
    · rw [if_neg hak]
      by_cases hk : a = k
      · subst hk
        rw [if_pos rfl]
        by_cases hv : v = unlistedByte
        · rw [if_pos hv]
          by_cases hb : b = a
          · subst hb
            rw [if_pos rfl, hv]
            exact Memory.read_of_lt h4 (Nat.lt_succ_self _)
          · rw [if_neg hb, Memory.read, if_neg (fun e => hb e.symm)]
        · rw [if_neg hv]
          by_cases hb : b = a
          · simp [Memory.read, hb]
          · rw [if_neg hb, Memory.read, Memory.read, if_neg (fun e => hb e.symm), if_neg (fun e => hb e.symm)]
      · rw [if_neg hk]
        by_cases hb : b = k
        · subst hb
          have : b ≠ a := fun e => hk e.symm
          simp [Memory.read, this]
        · have hkb : ¬ k = b := fun e => hb e.symm
          simp only [Memory.read, if_neg hkb]
          exact ih h4

/-- A read after a write (of a memory in canonical form): the byte written at that address, and elsewhere the byte that was
there. -/
theorem Memory.read_write {m : Memory} (hm : Memory.wf m = true) (a b : Nat) (v : Byte) :
    Memory.read (Memory.write m a v) b = if b = a then v else Memory.read m b :=
  Memory.read_write_from hm a b v

/-- A read after several bytes were written inside the memory. -/
theorem Memory.read_writeBytes {m : Memory} (hm : Memory.wf m = true) (a : Nat) (vs : List Byte) (h : a + vs.length ≤ serialSize)
    (b : Nat) :
    Memory.read (Memory.writeBytes m a vs) b = if a ≤ b then (vs[b - a]?).getD (Memory.read m b) else Memory.read m b := by
  induction vs generalizing m a with
  | nil => simp [Memory.writeBytes]
  | cons v vs ih =>
    have ha : a < serialSize := by simp only [List.length_cons] at h; omega
    unfold Memory.writeBytes
    rw [if_pos ha, ih (Memory.wf_write v hm ha) (a + 1) (by simp only [List.length_cons] at h; omega), Memory.read_write hm]
    by_cases hb : b = a
    · subst hb
      simp [show ¬ b + 1 ≤ b by omega]
    · by_cases hab : a ≤ b
      · have h1 : a + 1 ≤ b := by omega
        have h2 : b - a = (b - (a + 1)) + 1 := by omega
        simp [h1, hab, h2, hb]
      · have h1 : ¬ a + 1 ≤ b := by omega
        simp [h1, hab, hb]

end Sys2Proof.Machine
end

