-- ==== Sys2Proof/Tests/Slice0.lean ====
section
/-! SUPPORT. Tests/Slice0.lean: the model's own tests: the checks of well-formedness, each command on a small state, the states that meet
the hypotheses of the statements, and worked examples of the manual. -/

namespace Sys2Proof.Tests

set_option Elab.async false

open Sys2Proof.Machine Sys2Proof.Safety

/-! ### Small states -/

/-- The state a command answers. -/
def after (c : Instr) (s : State) : State :=
  match exec c s with
  | .next t => t
  | .fault _ => s
  | .refused _ => s

/-- Some motion periods, one after the other. -/
def periods : Nat → State → State
  | 0, s => s
  | n + 1, s => periods n (after .motionPeriod s)

/-- The end of a running debounce time at a switch input. -/
def ends (i : SwitchInput) (s : State) : State := after (switchRow i .stood) (s.setDebounce i (some 0))

/-- The reply that stands ready at a port, after its length byte. -/
def reply (p : Port) (s : State) : List Byte :=
  match (s.ports.get p).phase with
  | .reply (_ :: r) => r
  | _ => []

/-- Clamps shut, range II engaged, drives ready, chain closed, enabling switch active. -/
def inputs : Inputs :=
  { inactiveInputs with
    clampEngaged := .const true, gearA2 := true, gearB1 := true, driveReady := .const true, spindleReady := true,
    chainClosed := true, enabling := true }

/-- In RUN at rest: clamps ENGAGED, axes referenced at 0, spindle STOPPED in range II. -/
def base : State :=
  { State.reset with
    machine := .run, inputs := inputs
    clamps := .const { state := .engaged, valve := false, auto := false, timer := none }
    axes := .const { AxisUnit.reset with referenced := true }
    spindle := { Spindle.reset with engaged := some .ii, standstill := true, standstillTimer := none } }

/-- A row held by a port. -/
def heldBy (p : Port) : ClaimRow := { state := .held p, waiting := [] }

/-- Link 1 holds all seven resources. -/
def mine : State :=
  { base with
    claims := { axes := .const (heldBy .link1), spindle := heldBy .link1, coolant := heldBy .link1, spindleStopSent := false }
    planned := { base.planned with link1 := .const (some 0) } }

/-- The hydraulic unit UP with pressure. -/
def up : State :=
  { mine with
    hyd := { Hyd.stopped with state := .up, pump := true }, inputs := { inputs with hydPressure := true } }

/-- Clamp X RELEASED, the others ENGAGED. -/
def open1 : State :=
  { up with
    clamps := up.clamps.set .x { state := .released, valve := true, auto := false, timer := none }
    inputs := { up.inputs with clampEngaged := inputs.clampEngaged.set .x false, clampReleased := (PerAxis.const false).set .x true } }

/-- The spindle record RUNNING at 1,000 in range II. -/
def turning : State :=
  { mine with
    spindle :=
      { mine.spindle with
        state := .running, speed := 1000, effective := 1000, cmdCode := 26214, cmdDir := some .fwd, outCode := 26214,
        relay := some .fwd, standstill := false } }

/-- A FEED entry of X: the worked case 1 of section 3.5. -/
def feedX : Entry := { tag := 7, kind := .feed [{ axis := .x, delta := 10 }] 10 120000 .auto }

/-- The bytes of that entry (section 13.3). -/
def feedXBytes : List Byte := [0, 7, 0, 1, 0, 0, 0, 0, 10, 0, 1, 212, 192, 0, 0, 0, 0, 10]

/-- The move of that entry executing. -/
def moving : State :=
  { open1 with
    queues := { open1.queues with link1 := { entries := [feedX], head := .executing, stop := .running, timer := none } }
    planned := { open1.planned with link1 := (open1.planned.link1).set .x (some 10) }
    moves := { open1.moves with link1 := some (open1.moveOf feedX) } }

/-- A PROBE of X executing, with the latch. -/
def probing : State :=
  let e : Entry := { tag := 9, kind := .probe [{ axis := .x, delta := 10 }] 10 120000 .auto }
  { open1 with
    queues := { open1.queues with link1 := { entries := [e], head := .executing, stop := .running, timer := none } }
    moves := { open1.moves with link1 := some (open1.moveOf e) }
    latch := { owner := some (.link1, 9), waiting := [] } }

/-- One head in a sub-state on Link 1. -/
def headed (k : EntryKind) (h : HeadState) (timer : Timer) (s : State) : State :=
  { s with queues := { s.queues with link1 := { entries := [{ tag := 5, kind := k }], head := h, stop := .running, timer := timer } } }

/-- Select of a port rises, and the break time ends. -/
def brk (p : Port) (s : State) : State := after (.linkBreak ⟨p, .stood⟩) (after (.linkBreak ⟨p, .rises⟩) s)

/-- An axis record of X changed. -/
def withX (f : AxisUnit → AxisUnit) (s : State) : State := s.updAxis .x f

/-- One head on each of two ports, each in a sub-state. -/
def heads (p q : Queue) (s : State) : State := { s with queues := { s.queues with link1 := p, link2 := q } }

/-- A row lost by Link 1, with Link 2 waiting for it. -/
def lostRow : ClaimRow := { state := .orphaned .link1, waiting := [.link2] }

theorem all_axes {P : Axis → Prop} (h : ∀ a ∈ Axis.all, P a) : ∀ a, P a := fun a => h a (by cases a <;> decide)

theorem all_ports {P : Port → Prop} (h : ∀ p ∈ Port.all, P p) : ∀ p, P p := fun p => h p (by cases p <;> decide)

theorem ready_of {s : State} {p : Port}
    (h : ((s.ports.get p).phase = .idle ∧ (s.ports.get p).bits = [] ∧ (s.ports.get p).select = false) ∧
      (s.ports.get p).state = .active ∧ s.machine ≠ .start) :
    Ready s p := h

theorem base_quiet : Quiet base :=
  ⟨fun p => by cases p <;> decide +kernel, fun r => by cases r with
    | axis a => cases a <;> decide +kernel
    | spindle => decide +kernel
    | coolant => decide +kernel⟩

theorem mine_quiet : Quiet mine :=
  ⟨fun p => by cases p <;> decide +kernel, fun r => by cases r with
    | axis a => cases a <;> decide +kernel
    | spindle => decide +kernel
    | coolant => decide +kernel⟩

/-- A state with the queues, moves and claims of another is quiet with it. -/
theorem quiet_of {s t : State} (h : Quiet s) (hq : t.queues = s.queues) (hm : t.moves = s.moves) (hc : t.claims = s.claims) :
    Quiet t :=
  ⟨fun p => by rw [hq, hm]; exact h.1 p, fun r => by
    have := h.2 r
    simpa [State.orphanedFrom, State.row, hc] using this⟩

theorem mine_ready : Ready mine .link1 := ready_of (by decide +kernel)

theorem base_valves : ValveLaw base :=
  ⟨fun a => by cases a <;> decide +kernel, fun a => by cases a <;> decide +kernel⟩


theorem test_wellFormed_bits :
    Instr.wellFormed (.status .link1 { bytes := [0], bits := List.replicate 7 true }) = true ∧
      Instr.wellFormed (.status .link1 { bytes := [], bits := List.replicate 8 true }) = false := by
  decide +kernel

theorem test_wellFormed_landed_reset :
    Instr.wellFormed (.resetInput 30000 inputs (List.replicate 1444 1)) = true ∧
      Instr.wellFormed (.resetInput 30000 inputs (List.replicate 1445 1)) = false := by
  decide +kernel

theorem test_wellFormed_landed_store :
    Instr.wellFormed (.configStoreEnd (.failed (List.replicate 1444 1))) = true ∧
      Instr.wellFormed (.configStoreEnd (.failed (List.replicate 1445 1))) = false := by
  decide +kernel

theorem test_wellFormed_unknown_code :
    Instr.wellFormed (.unknownCommand .link1 5 (frame [])) = true ∧ Instr.wellFormed (.unknownCommand .link1 1 (frame [])) = false := by
  decide +kernel

theorem test_wellFormed_unknown_bits :
    Instr.wellFormed (.unknownCommand .link1 5 { bytes := [0], bits := List.replicate 8 false }) = false := by
  decide +kernel

theorem test_complete_frames :
    (frame [1, 2]).complete = true ∧ ({ bytes := [3, 1], bits := [] } : Clocked).complete = false ∧
      ({ bytes := [121], bits := [] } : Clocked).complete = true := by
  decide +kernel

theorem test_decode_no_word :
    decodeTableWord 8 1 = none ∧ State.withFetchWord base 8 1 = base :=
  ⟨rfl, rfl⟩

theorem test_step_runs_front :
    step { base with pending := [.chainOpens, .motionPeriod] } = exec .chainOpens { base with pending := [.motionPeriod] } :=
  rfl

theorem test_step_idles :
    step base = .next base :=
  rfl

theorem test_reset_short_long :
    after (.resetInput 4999 inputs []) base = base ∧ (after (.resetInput 20001 inputs []) base).machine = .start ∧
      (after (.resetInput 20001 inputs []) base).inputs = inputs := by
  decide +kernel

theorem test_reset_cuts_store :
    (after (.resetInput 20001 inputs [1, 2]) { mine with store := { defaults := false, op := .storing .link1 [1, 2, 3] } }).serial =
      [(0, 1), (1, 2)] := by
  decide +kernel

theorem test_load_end_defaults :
    (after (.startUpLoadEnd true) { State.reset with inputs := inputs }).machine = .resetWait ∧
      (after (.startUpLoadEnd true) { State.reset with inputs := inputs }).store.defaults = true ∧
      (after (.startUpLoadEnd true) { State.reset with inputs := inputs }).clamps.x.state = .engaged := by
  decide +kernel

theorem test_load_end_drive_not_ready :
    State.reset.machine = .start ∧ (after (.startUpLoadEnd false) State.reset).machine = .estop ∧
      (after (.startUpLoadEnd false) State.reset).axes.y.fault = some .drive ∧
      (after (.startUpLoadEnd false) State.reset).spindle.state = .fault .drive ∧ after (.startUpLoadEnd true) base = base := by
  decide +kernel

theorem test_chain_opens :
    open1.machine = .run ∧ (after .chainOpens moving).machine = .estop ∧ (after .chainOpens moving).queues.link1.entries = [] ∧
      (after .chainOpens moving).ports.link1.events = [.machineState .estop, .axisFault .x .clamp, .entryFailed 7 .estop] ∧
      (after .chainOpens moving).clamps.x.valve = false := by
  decide +kernel

theorem test_chain_opens_only_level :
    (after .chainOpens State.reset).inputs.chainClosed = false ∧ (after .chainOpens State.reset).machine = .start := by
  decide +kernel

theorem test_chain_opens_spindle :
    SpindleLaw turning ∧ (after .chainOpens turning).spindle.outCode = 0 ∧ (after .chainOpens turning).spindle.state = .stopped :=
  by
  refine ⟨?_, ?_, ?_⟩
  · change turning.machine = .run ∧ turning.spindle.engaged = turning.rangeReading ∧ turning.spindle.engaged ≠ none ∧
      turning.spindle.valves = .allOff
    decide +kernel
  · decide +kernel
  · decide +kernel

theorem test_chain_closes :
    (after .chainCloses { base with machine := .estop, inputs := { inputs with chainClosed := false }, axes := .const { AxisUnit.reset with meas := 12, cmd := 3, out := 3 } }).machine =
        .resetWait ∧
      (after .chainCloses { base with machine := .estop, inputs := { inputs with chainClosed := false }, axes := .const { AxisUnit.reset with meas := 12, cmd := 3, out := 3 } }).axes.x.cmd =
        12 := by
  decide +kernel

theorem test_follow_up :
    ({ base with machine := .estop }).followUp .x = true ∧ ({ base with machine := .estop }).standing .x = true ∧
      (after .motionPeriod (withX (fun u => { u with meas := 9, out := 4, cmd := 1, backlog := 2 }) { base with machine := .estop })).axes.x.cmd = 6 := by
  decide +kernel

theorem test_pulses_at_most_1000 :
    (after .motionPeriod (withX (fun u => { u with backlog := 1500, out := 1500, cmd := 1500, meas := 0 }) open1)).axes.x.stepPulses = 1000 ∧
      (after .motionPeriod (withX (fun u => { u with backlog := 1500, out := 1500, cmd := 1500, meas := 0 }) mine)).axes.x.stepPulses = 0 := by
  decide +kernel

theorem test_resting_axis :
    mine.followUp .x = false ∧ mine.standing .x = true ∧ mine.followingExceeded .x = false ∧
      (after .motionPeriod (withX (fun u => { u with cmd := 350000, out := 350000, backlog := 350000 }) mine)).axes.x.out = 350000 := by
  decide +kernel

theorem test_following_fault :
    (after .motionPeriod (withX (fun u => { u with meas := 2001 }) mine)).axes.x.fault = some .following ∧
      (after .motionPeriod (withX (fun u => { u with meas := 2000 }) mine)).axes.x.fault = none := by
  decide +kernel

theorem test_move_period_hypotheses :
    moving.machine = .run ∧ moving.queues.link1.moving = true ∧ moving.moves.link2 = none ∧ moving.moves.link3 = none ∧
      moving.followingExceeded .x = false ∧
      ((open1.moveOf feedX).advance (moving.ceiling (open1.moveOf feedX))).2 = .goes ∧
      ((open1.moveOf feedX).axes.map (·.axis)).Nodup ∧
      beyondBound 0 (((open1.moveOf feedX).advance 512).1.position { axis := .x, delta := 10, start := 0, rate := 200, accel := 250000 }) =
        false := by
  decide +kernel

theorem test_worked_case_1_setup :
    (open1.moveOf feedX).accel = 64 ∧ (open1.moveOf feedX).vAxes = 51200 ∧ (open1.moveOf feedX).freeCeiling open1.overrides = 512 := by
  decide +kernel

theorem test_worked_case_1_period_6 :
    ((periods 6 moving).moves.link1.map (fun m => (m.s, m.v, m.braking))) = some (1344, 384, false) ∧ (periods 6 moving).axes.x.cmd = 5 := by
  decide +kernel

theorem test_worked_case_1_lands :
    ((periods 14 moving).moves.link1.map (fun m => (m.s, m.v, m.braking))) = some (2496, 64, true) ∧
      (periods 15 moving).axes.x.cmd = 10 ∧ (periods 15 moving).queues.link1.entries = [] ∧
      (periods 15 moving).ports.link1.events = [.entryDone 7 false] := by
  decide +kernel

theorem test_path_goes_lands_stops :
    let m := open1.moveOf feedX
    m.s ≤ 256 * m.len ∧ (m.advance 512).2 = .goes ∧ ({ m with s := 2496, v := 64, braking := true }.advance 512).2 = .landed ∧
      ({ m with s := 100, v := 64, stop := true }.advance 0).2 = .short := by
  decide +kernel

theorem test_worked_case_2_setup :
    let e : Entry := { tag := 1, kind := .feed [{ axis := .x, delta := 3000 }, { axis := .z, delta := -4000 }] 5000 6000000 .auto }
    (mine.moveOf e).vAxes = 48000 ∧ (mine.moveOf e).accel = 80 ∧ (mine.moveOf e).freeCeiling mine.overrides = 25600 := by
  decide +kernel

theorem test_encoder_forward_backward :
    (after (.encoderCount .x true false) base).axes.x.meas = 1 ∧ (after (.encoderCount .x false true) base).axes.x.meas = -1 ∧
      after (.encoderCount .x false false) base = base ∧ beyondBound 0 1 = false ∧ beyondBound 0 (-1) = false := by
  decide +kernel

theorem test_encoder_illegal :
    (after (.encoderCount .x true true) base).axes.x.fault = some .encoder ∧ (after (.encoderCount .x true true) base).axes.x.meas = 0 ∧
      (after (.encoderCount .x true true) base).axes.x.referenced = false := by
  decide +kernel

theorem test_index_edge :
    (after (.indexEdge .x) (withX (fun u => { u with search := .index, meas := 40, cmd := 41, out := 42 }) base)).axes.x.cmd = 1 ∧
      (after (.indexEdge .x) (withX (fun u => { u with search := .index, meas := 40, cmd := 41, out := 42 }) base)).axes.x.search = .captured ∧
      after (.indexEdge .x) base = base := by
  decide +kernel

theorem test_home_switch :
    (ends (.home .x) (withX (fun u => { u with search := .search }) moving)).axes.x.search = .index ∧
      moving.queues.link1.moving = true ∧ moving.queues.link2.entries = [] ∧ moving.queues.link3.entries = [] ∧
      after (.homeSwitchChange .x .stood) base = base := by
  decide +kernel

theorem test_probe_edge :
    probing.inputs.probe ≠ true ∧ (probing.moves.link1.map (·.seen)) = some false ∧
      (after (.probeEdge true) probing).probes.link1 = { valid := true, tag := 9, positions := .const 0 } ∧
      (after (.probeEdge true) base).probes = base.probes := by
  decide +kernel

theorem test_drive_ready_drop :
    (ends (.driveReady .x) mine).axes.x.fault = some .drive ∧
      (ends (.driveReady .x) mine).ports.link1.events = [.axisFault .x .drive] ∧
      (ends (.driveReady .x) (withX (fun u => { u with fault := some .following }) mine)).axes.x.fault = some .following ∧
      (ends (.driveReady .x) { mine with machine := .start }).axes.x.fault = none := by
  decide +kernel

theorem test_clamp_switch_loss :
    (ends (.clamp .x .engaged) mine).clamps.x.state = .fault .switch ∧
      (ends (.clamp .x .released) open1).clamps.x.state = .fault .switch ∧
      (ends (.clamp .x .engaged) mine).ports.link1.events = [.clampFault .x .switch] := by
  decide +kernel

theorem test_clamp_release_timer :
    let s := up.updClamp .x (fun _ => { state := .releasing, valve := true, auto := false, timer := some 1 })
    (after (.clampReleaseTimerExpiry .x) s).clamps.x = { state := .fault .releaseTimeout, valve := false, auto := false, timer := none } := by
  decide +kernel

theorem test_clamp_engage_timer :
    let s := (mine.updClamp .x (fun _ => { state := .engaging, valve := false, auto := false, timer := some 1 }))
    (after (.clampEngageTimerExpiry .x) { s with inputs := { inputs with clampEngaged := .const false } }).clamps.x.state =
      .fault .engageTimeout := by
  decide +kernel

theorem test_hyd_pressure :
    let s := { mine.updClamp .x (fun _ => { state := .releaseWait, valve := false, auto := false, timer := none }) with
      hyd := { Hyd.stopped with state := .starting, pump := true, startTimer := some 4000 } }
    s.config.hydRunon ≠ 0 ∧ (ends .hydPressure s).hyd.state = .up ∧
      (ends .hydPressure s).clamps.x.state = .releasing := by
  decide +kernel

theorem test_hyd_dip_watch :
    (ends .hydPressure up).hyd.dipTimer = some 300 ∧
      (ends .hydPressure { up with hyd := { up.hyd with dipTimer := some 3 }, inputs := inputs }).hyd.dipTimer = none ∧
      (ends .hydPressure { mine with hyd := { Hyd.stopped with state := .lost } }).hyd.state = .lost := by
  decide +kernel

theorem test_hyd_start_timer :
    (after .hydStartTimerExpiry { mine with hyd := { Hyd.stopped with state := .starting, pump := true, startTimer := some 1 } }).hyd =
      { Hyd.stopped with state := .lost } := by
  decide +kernel

theorem test_hyd_dip_timer :
    (after .hydDipTimerExpiry { open1 with hyd := { open1.hyd with dipTimer := some 1 } }).clamps.x.state = .engaging ∧
      (after .hydDipTimerExpiry { open1 with hyd := { open1.hyd with dipTimer := some 1 } }).ports.link1.events = [.hydraulicLost] ∧
      open1.holdsHydraulic .link1 = true := by
  decide +kernel

theorem test_hyd_runon_timer :
    (after .hydRunonTimerExpiry { up with hyd := { up.hyd with runonTimer := some 1 } }).hyd = Hyd.stopped ∧ up.demand = false := by
  decide +kernel

theorem test_hand_reclamp :
    let s := (open1.updClamp .x (fun c => { c with auto := true })).updHand .x (fun h => { h with handReleased := true, idle := some 1 })
    (after (.handReclampTimerExpiry .x) s).clamps.x.state = .engaging := by
  decide +kernel

theorem test_open1_valves :
    ValveLaw open1 :=
  ⟨fun a => by cases a <;> decide +kernel, fun a => by cases a <;> decide +kernel⟩

theorem test_enabling_drop :
    (ends .enabling (open1.updHand .x (fun h => { h with pending := 50 }))).hands.x.pending = 0 ∧
      after (.enablingSwitchDrop .stood) base = base := by
  decide +kernel

theorem test_panel_hold :
    (ends .panelHold (open1.updHand .x (fun h => { h with pending := 50 }))).hands.x.pending = 0 ∧
      (ends .panelHold base).holds.panel = true ∧
      (ends .panelHold { base with machine := .start }).holds.panel = false := by
  decide +kernel

theorem test_dwell_timer :
    (after (.dwellTimerExpiry .link1) (headed (.dwell 5) .executing (some 0) mine)).queues.link1.entries = [] ∧
      (after (.dwellTimerExpiry .link1) (headed (.dwell 5) .executing (some 0) mine)).ports.link1.events = [.entryDone 5 false] := by
  decide +kernel

theorem test_wait_timer :
    (after (.waitTimerExpiry .link1) (headed (.wait .atSpeed 5) .executing (some 0) mine)).queues.link1.head = .failed .timeout := by
  decide +kernel

theorem test_tach_period :
    (after (.spindleEncoderEdge 7) base).spindle.tach = .period (some (7, 0)) ∧
      (after (.spindleEncoderEdge 9) { base with spindle := { base.spindle with tach := .period (some (7, 14)) } }).spindle.tach =
        .period (some (7, 15)) ∧
      (after (.spindleEncoderEdge 15625) { base with spindle := { base.spindle with tach := .period (some (0, 15)) } }).spindle.tach = .count 0 ∧
      (after (.spindleEncoderEdge 15626) { base with spindle := { base.spindle with tach := .period (some (0, 15)) } }).spindle.measured = 599 := by
  decide +kernel

theorem test_tach_count_edge :
    (after (.spindleEncoderEdge 9) { base with spindle := { base.spindle with tach := .count 3 } }).spindle.tach = .count 4 := by
  decide +kernel

theorem test_tach_limit :
    (after .tachWindowLimitExpiry { base with spindle := { base.spindle with tach := .period (some (0, 3)), measured := 30 } }).spindle.measured = 0 ∧
      after .tachWindowLimitExpiry base = base := by
  decide +kernel

theorem test_tach_gate :
    (after .tachGateEnd { base with spindle := { base.spindle with tach := .count 64 } }).spindle.measured = 3750 ∧
      (after .tachGateEnd { base with spindle := { base.spindle with tach := .count 9 } }).spindle.tach = .count 0 ∧
      (after .tachGateEnd { base with spindle := { base.spindle with tach := .count 8 } }).spindle.tach = .period none := by
  decide +kernel

theorem test_standstill_timer :
    (after .standstillTimerExpiry State.reset).spindle.standstill = true := by
  decide +kernel

theorem test_at_speed_timer :
    (after .atSpeedTimerExpiry { turning with spindle := { turning.spindle with atSpeedTimer := some 1 } }).spindle.atSpeed = true := by
  decide +kernel

theorem test_turning_quiet :
    Quiet turning :=
  quiet_of mine_quiet rfl rfl rfl

theorem test_spindle_stop_timer :
    (after .spindleStopTimerExpiry { turning with spindle := { turning.spindle with state := .stopping, stopTimer := some 1 } }).spindle.state =
      .fault .stopTimeout := by
  decide +kernel

theorem test_shift_stage_timer :
    let s := { up with spindle := { up.spindle with state := .shifting .iv .cylB, stageTimer := some 1, halfTimer := some 3, cmdDir := some .fwd } }
    (after .shiftStageTimerExpiry s).spindle.state = .fault .shiftTimeout ∧ s.spindle.state.isFault = false := by
  decide +kernel

theorem test_wiggle_half :
    let s := { up with spindle := { up.spindle with state := .shifting .iv .cylB, stageTimer := some 9, halfTimer := some 1, cmdDir := some .fwd } }
    s.readB ≠ some GearRange.iv.wantB ∧ (after .wiggleHalfTimerExpiry s).spindle.cmdDir = some .rev ∧
      (after .wiggleHalfTimerExpiry s).spindle.halfTimer = some 120 := by
  decide +kernel

theorem test_wiggle_half_cylA :
    let s := { up with spindle := { up.spindle with state := .shifting .i .cylA, halfTimer := some 1, cmdDir := some .rev } }
    s.readA ≠ some GearRange.i.wantA ∧ (after .wiggleHalfTimerExpiry s).spindle.cmdDir = some .fwd := by
  decide +kernel

theorem test_gear_switch_running :
    (ends (.gear .a2) turning).spindle.state = .fault .rangeLost ∧
      (ends (.gear .a2) turning).ports.link1.events = [.gearFault .rangeLost] := by
  decide +kernel

theorem test_gear_switch_stopped :
    (ends (.gear .b1) base).spindle.engaged = none ∧ base.spindle.state = .stopped := by
  decide +kernel

theorem test_gear_switch_shifting :
    let s := { mine with spindle := { turning.spindle with state := .shifting .i .halt, cmdCode := 0, cmdDir := none } }
    let h := { up with hyd := { Hyd.stopped with state := .starting }, spindle := { up.spindle with state := .shifting .i .hyd } }
    (ends (.gear .a2) s).spindle.state = .fault .rangeLost ∧ (ends (.gear .a2) h).spindle.state = .fault .rangeLost := by
  decide +kernel

theorem test_spindle_drive_drop :
    (ends .spindleReady turning).spindle.state = .fault .drive ∧
      (ends .spindleReady turning).spindle.outCode = 0 := by
  decide +kernel

theorem test_output_ramp :
    ((turning.spindle.rampStep 44).outCode = 26214) ∧
      (({ turning.spindle with cmdDir := some .rev } : Spindle).rampStep 44).outCode = 26170 ∧
      (({ turning.spindle with cmdDir := some .rev, outCode := 0 } : Spindle).rampStep 44).relay = some .rev := by
  decide +kernel

theorem test_coolant_pressure :
    let s := { turning with coolant := { mode := .through, flood := .off, through := .priming, floodPump := false, throughPump := true, primeTimer := some 5, lossTimer := none } }
    let u := { turning with coolant := { mode := .through, flood := .off, through := .on, floodPump := false, throughPump := true, primeTimer := none, lossTimer := none } }
    (ends .coolantPressure s).coolant.through = .on ∧
      (ends .coolantPressure { u with inputs := { u.inputs with coolantPressure := true } }).coolant.lossTimer = some 500 := by
  decide +kernel

theorem test_tsc_prime_timer :
    (after .tscPrimeTimerExpiry { turning with coolant := { mode := .through, flood := .off, through := .priming, floodPump := false, throughPump := true, primeTimer := some 5, lossTimer := none } }).coolant.through = .fault .primeTimeout ∧
      (after .tscPrimeTimerExpiry { turning with coolant := { mode := .through, flood := .off, through := .priming, floodPump := false, throughPump := true, primeTimer := some 5, lossTimer := none } }).ports.link1.events = [.coolantFault .primeTimeout] := by
  decide +kernel

theorem test_tsc_loss_timer :
    (after .tscLossTimerExpiry { turning with coolant := { mode := .through, flood := .off, through := .on, floodPump := false, throughPump := true, primeTimer := none, lossTimer := some 5 } }).coolant.through = .fault .pressureLost := by
  decide +kernel

theorem test_low_level :
    let s := { turning with coolant := { mode := .through, flood := .off, through := .on, floodPump := false, throughPump := true, primeTimer := none, lossTimer := some 5 } }
    (ends .lowLevel s).coolant.through = .fault .lowLevel ∧ (ends .lowLevel s).coolant.flood = .fault .lowLevel ∧
      (ends .lowLevel s).coolant.throughPump = false ∧ after (.lowLevelSwitchChange .stood) s = s := by
  decide +kernel

theorem test_low_level_keeps_causes :
    let s := { mine with coolant := { mine.coolant with flood := .fault .lowLevel, through := .fault .pressureLost } }
    (ends .lowLevel s).coolant.through = .fault .pressureLost ∧ (ends .lowLevel s).ports.link1.events = [] := by
  decide +kernel

theorem test_break_cut_override :
    (brk .link1 (after (.setOverride .link1 { bytes := [3, 200, 60], bits := [] }) base)).overrides =
        { feed := 150, rapid := 60, spindle := 100 } ∧
      (brk .link1 (after (.setOverride .link1 { bytes := [3, 200, 60], bits := [true] }) base)).ports.link1.cut = true := by
  decide +kernel

theorem test_break_cut_action :
    (brk .link1 (after (.claim .link1 { bytes := [2, 1], bits := [] }) base)).claims = base.claims ∧
      (brk .link1 (after (.claim .link1 { bytes := [], bits := [] }) base)).ports.link1.cut = true ∧
      after (.linkBreak ⟨.link1, .falls⟩) (brk .link1 base) = base := by
  decide +kernel

theorem test_break_cut_comp_data :
    let s := withX (fun u => { u with window := { first := 10, last := 19, pointer := some 10, method := .stop } }) mine
    ((brk .link1 (after (.compData .link1 { bytes := [9, 0, 0, 5, 0, 6, 0], bits := [true, false] }) s)).config.comp.x.take 13).drop 9 =
        [0, 5, 6, 0] ∧
      (brk .link1 (after (.compData .link1 { bytes := [9, 0, 0, 5, 0, 6, 0], bits := [true, false] }) s)).axes.x.window.pointer = some 12 := by
  decide +kernel

theorem test_select_pause :
    let s := withX (fun u => { u with window := { first := 10, last := 19, pointer := some 10, method := .stop } }) mine
    let sent := after (.compData .link1 { bytes := [9, 0, 0, 5, 0, 6], bits := [] }) s
    let on := after (.linkBreak ⟨.link1, .falls⟩) (periods 1 (after (.linkBreak ⟨.link1, .rises⟩) sent))
    let seven := after (.unknownCommand .link1 0 { bytes := [], bits := [true, false, true] }) on
    let high := periods 2 (after (.linkBreak ⟨.link1, .rises⟩) seven)
    let done := after (.linkBreak ⟨.link1, .stood⟩) high
    on.ports.link1.phase = sent.ports.link1.phase ∧ on.ports.link1.breakTimer = none ∧ seven.ports.link1.phase = .parameters 67 9 [0, 0, 5, 0, 6, 0] ∧ seven.ports.link1.bits = [true, false, true] ∧
      high.ports.link1.phase = seven.ports.link1.phase ∧ high.ports.link1.bits = [] ∧ high.ports.link1.select = true ∧
      high.ports.link1.breakTimer = some 0 ∧
      (done.config.comp.x.take 13).drop 9 = [0, 5, 6, 0] ∧ done.axes.x.window.pointer = some 12 ∧ done.ports.link1.cut = true ∧
      done.ports.link1.select = true ∧ done.ports.link1.breakTimer = none := by
  decide +kernel

theorem test_select_high_ignores :
    let s := after (.linkBreak ⟨.link1, .rises⟩) base
    after (.status .link1 (frame [])) s = s ∧ after (.linkBreak ⟨.link1, .rises⟩) s = s ∧ after (.linkBreak ⟨.link1, .stood⟩) base = base ∧
      s.ports.link1.dataOut = none := by
  decide +kernel

theorem test_bits_join :
    let bit := fun n : Nat => after (.unknownCommand .link1 (enc1 n) { bytes := [], bits := [] })
    let four := base.setBits .link1 [false, false, false, false]
    (bit 16 four).ports.link1.phase = .length 1 ∧ (bit 16 four).ports.link1.bits = [false, false, false, false] ∧
      (after (.linkBreak ⟨.link1, .rises⟩) (bit 16 four)).ports.link1.bits = [] ∧
      (bit 0 (bit 16 four)).ports.link1.phase = (after (.status .link1 { bytes := [0], bits := [] }) base).ports.link1.phase := by
  decide +kernel

theorem test_data_out :
    let l := { base.ports.link1 with phase := .reply [128, 3] }
    l.dataOut = some true ∧ ({ l with bits := [false] } : LinkPort).dataOut = some false ∧ base.ports.link1.dataOut = some false := by
  decide +kernel

theorem test_rejoin_clears_cut :
    (after (.rejoin .link1 (frame [])) (base.updPort .link1 (fun l => { l with cut := true }))).ports.link1.cut = false := by
  decide +kernel

theorem test_silence_expiry :
    let s := { mine with ports := { mine.ports with link1 := { mine.ports.link1 with silence := some 1 } } }
    (after (.silenceTimerExpiry .link1) s).ports.link1.events = [.linkLost] ∧ (after (.silenceTimerExpiry .link1) s).claims.axes.x.state = .free ∧
      after (.silenceTimerExpiry .link1) mine = mine := by
  decide +kernel

theorem test_silence_moving :
    let s := { moving with ports := { moving.ports with link1 := { moving.ports.link1 with silence := some 1 } } }
    (after (.silenceTimerExpiry .link1) s).claims.axes.x.state = .orphaned .link1 ∧
      (after (.silenceTimerExpiry .link1) s).queues.link1.stop = .portLost := by
  decide +kernel

theorem test_store_end :
    let s := { mine with store := { defaults := true, op := .storing .link1 [1, 0, 3] } }
    (after (.configStoreEnd .ok) s).serial = [(0, 1), (2, 3)] ∧ (after (.configStoreEnd .ok) s).store.defaults = false ∧
      (after (.configStoreEnd (.failed [9])) s).serial = [(0, 9)] ∧ (after (.configStoreEnd (.failed [9])) s).ports.link1.events = [.configDone false] ∧
      Memory.wf s.serial = true := by
  decide +kernel

theorem test_reload_end_fails :
    let s := { mine with machine := .resetWait, store := { defaults := true, op := .reloading .link1 false } }
    s.readImage true = none ∧ (after (.configReloadEnd true) s).ports.link1.events = [.configDone false] ∧
      (after (.configReloadEnd true) s).store = { defaults := true, op := .idle } := by
  decide +kernel

theorem test_image_length :
    WorkingConfig.factory.image.length = 1116 := by
  decide +kernel

theorem test_admission :
    reply .link1 (after (.unknownCommand .link1 5 (frame [])) base) = [15] ∧ reply .link1 (after (.hold .link1 (frame [])) State.reset) = [8] ∧
      reply .link1 (after (.hold .link1 (frame [])) { base with ports := { base.ports with link1 := { base.ports.link1 with state := .lost } } }) = [7] ∧
      reply .link1 (after (.hold .link1 (frame [1])) base) = [6] := by
  decide +kernel

theorem test_admission_overlong :
    reply .link1 (after (.hold .link1 { bytes := [121], bits := [] }) base) = [6] ∧
      reply .link1 (after (.unknownCommand .link1 5 { bytes := [2, 0, 0], bits := [] }) base) = [15] ∧
      linkRow (.hold .link1 { bytes := [121], bits := [] }) = some (.link1, 17, { bytes := [121], bits := [] }) := by
  decide +kernel

theorem test_status :
    (reply .link1 (after (.status .link1 (frame [])) base)).take 6 = [0, 0, 0, 0, 3, 0] ∧ (reply .link1 (after (.status .link1 (frame [])) State.reset)).length = 53 := by
  decide +kernel

theorem test_identify :
    reply .link2 (after (.identify .link2 (frame [])) State.reset) = [0, 13, 86, 97, 119, 115, 101, 108, 32, 72, 66, 45, 51, 49, 48, 1, 2, 0, 0, 0, 250] := by
  decide +kernel

theorem test_read_events :
    let s := { base with ports := { base.ports with link1 := { base.ports.link1 with events := List.replicate 9 .linkLost, eventsLost := true } } }
    (reply .link1 (after (.readEvents .link1 (frame [])) s)).take 8 = [0, 1, 8, 1, 12, 0, 0, 0] ∧
      (after (.readEvents .link1 (frame [])) s).ports.link1.events = [.linkLost] := by
  decide +kernel

theorem test_rejoin :
    (after (.rejoin .link1 (frame [])) { base with ports := { base.ports with link1 := { base.ports.link1 with state := .lost } } }).ports.link1.state =
      .active := by
  decide +kernel

theorem test_machine_reset :
    let s := { mine with machine := .resetWait, hyd := { Hyd.stopped with state := .lost }, spindle := { mine.spindle with state := .fault .drive } }
    (after (.machineReset .link1 (frame [])) (withX (fun u => { u with fault := some .drive, meas := 8 }) s)).axes.x.cmd = 8 ∧
      (after (.machineReset .link1 (frame [])) (withX (fun u => { u with fault := some .drive, meas := 8 }) s)).spindle.state = .stopped ∧
      reply .link1 (after (.machineReset .link1 (frame [])) s) = [0, 3, 0, 0, 0] := by
  decide +kernel

theorem test_machine_reset_estop :
    reply .link1 (after (.machineReset .link1 (frame [])) { base with machine := .estop }) = [13] := by
  decide +kernel

theorem test_hold :
    reply .link1 (after (.hold .link1 (frame [])) base) = [0, 1] ∧ (after (.hold .link1 (frame [])) base).holds.links.link1 = true := by
  decide +kernel

theorem test_release_hold :
    reply .link1 (after (.releaseHold .link1 (frame [])) { base with holds := { links := .const true, panel := true } }) = [0, 14] ∧
      reply .link1 (after (.releaseHold .link1 (frame [])) base) = [0, 0] := by
  decide +kernel

theorem test_set_override :
    reply .link1 (after (.setOverride .link1 (frame [255, 255, 0])) base) = [0, 150, 100, 50] ∧
      (after (.setOverride .link1 (frame [100, 100, 50])) turning).spindle.effective = 801 := by
  decide +kernel

theorem test_claim_nowait :
    reply .link1 (after (.claim .link1 (frame [127, 0])) base) = [0, 127, 0] ∧ reply .link2 (after (.claim .link2 (frame [3, 0])) mine) = [2, 0, 3] ∧
      decResourceSet 3 = some [.axis .x, .axis .y] ∧ mine.isTaken .link2 (.axis .x) = true := by
  decide +kernel

theorem test_claim_wait :
    reply .link2 (after (.claim .link2 (frame [1, 1])) mine) = [1, 0, 1] ∧ (after (.claim .link2 (frame [1, 1])) mine).claims.axes.x.waiting = [.link2] ∧
      reply .link2 (after (.claim .link2 (frame [128, 1])) mine) = [6] := by
  decide +kernel

theorem test_claim_list_full :
    let s := mine.setRow (.axis .x) { state := .orphaned .link1, waiting := [.link2, .link3] }
    s.listFull .link1 (.axis .x) = true ∧ reply .link1 (after (.claim .link1 (frame [1, 1])) s) = [5] := by
  decide +kernel

theorem test_release :
    let s := mine.setRow (.axis .x) { state := .held .link1, waiting := [.link2] }
    reply .link1 (after (.release .link1 (frame [3])) s) = [0, 3, 0] ∧ (after (.release .link1 (frame [3])) s).claims.axes.x = heldBy .link2 ∧
      (after (.release .link1 (frame [3])) s).ports.link2.events = [.claimGranted (.axis .x)] := by
  decide +kernel

theorem test_release_busy :
    reply .link1 (after (.release .link1 (frame [32])) turning) = [4] ∧ turning.spindle.state ≠ .stopped := by
  decide +kernel

theorem test_mine_claims :
    ClaimLaw mine :=
  fun r => by
  cases r with
  | axis a =>
    cases a <;>
      exact ⟨by decide, by decide, (fun p hp => by simp [mine, State.row, Claims.row, heldBy, PerAxis.const, PerAxis.get] at hp),
        (fun p hp => by simp [mine, State.row, Claims.row, heldBy, PerAxis.const, PerAxis.get] at hp), fun _ => rfl⟩
  | spindle =>
    exact ⟨by decide, by decide, (fun p hp => by simp [mine, State.row, Claims.row, heldBy] at hp),
      (fun p hp => by simp [mine, State.row, Claims.row, heldBy] at hp), fun _ => rfl⟩
  | coolant =>
    exact ⟨by decide, by decide, (fun p hp => by simp [mine, State.row, Claims.row, heldBy] at hp),
      (fun p hp => by simp [mine, State.row, Claims.row, heldBy] at hp), fun _ => rfl⟩

theorem test_hand_over :
    reply .link1 (after (.handOver .link1 (frame [0, 3])) mine) = [0] ∧ (after (.handOver .link1 (frame [0, 3])) mine).claims.axes.x = heldBy .link3 ∧
      reply .link1 (after (.handOver .link1 (frame [0, 1])) mine) = [6] ∧ reply .link2 (after (.handOver .link2 (frame [0, 1])) mine) = [3] := by
  decide +kernel

theorem test_hand_over_refused :
    reply .link1 (after (.handOver .link1 (frame [0, 2])) { mine with ports := { mine.ports with link2 := { mine.ports.link2 with state := .lost } } }) = [13] ∧
      reply .link1 (after (.handOver .link1 (frame [0, 2])) moving) = [4] := by
  decide +kernel

theorem test_read_claims :
    (reply .link2 (after (.readClaims .link2 (frame [])) (mine.setRow (.axis .x) { state := .held .link1, waiting := [.link2] }))).take 8 =
      [0, 1, 1, 1, 2, 1, 1, 0] := by
  decide +kernel

theorem test_queue_entry :
    decEntry feedXBytes = some feedX ∧ reply .link1 (after (.queueEntry .link1 (frame feedXBytes)) mine) = [0, 1] ∧
      (after (.queueEntry .link1 (frame feedXBytes)) mine).queues.link1.head = .starting (some .clamps) ∧
      (after (.queueEntry .link1 (frame feedXBytes)) mine).clamps.x.state = .releaseWait ∧
      (after (.queueEntry .link1 (frame feedXBytes)) mine).planned.link1.x = some 10 := by
  decide +kernel

theorem test_queue_entry_refused :
    reply .link2 (after (.queueEntry .link2 (frame feedXBytes)) mine) = [3] ∧
      reply .link1 (after (.queueEntry .link1 (frame feedXBytes)) { mine with machine := .resetWait }) = [8] ∧
      reply .link1 (after (.queueEntry .link1 (frame [0, 1, 9, 0])) mine) = [6] ∧
      reply .link1 (after (.queueEntry .link1 (frame feedXBytes)) { mine with axes := .const AxisUnit.reset }) = [12] := by
  decide +kernel

theorem test_queue_entry_stalled :
    (after (.queueEntry .link1 (frame [0, 8, 4, 0, 0, 0, 9])) (headed (.dwell 5) (.failed .limit) none mine)).queues.link1.entries =
        [{ tag := 5, kind := .dwell 5 }, { tag := 8, kind := .dwell 9 }] ∧
      (headed (.dwell 5) (.failed .limit) none mine).queues.link1.state = .stalled ∧
      (after (.queueEntry .link1 (frame [0, 8, 4, 0, 0, 0, 9])) mine).queues.link1.timer = some 9 := by
  decide +kernel

theorem test_queue_entry_full :
    let s := { mine with queues := { mine.queues with link1 := { entries := List.replicate 16 feedX, head := .failed .limit, stop := .running, timer := none } } }
    reply .link1 (after (.queueEntry .link1 (frame feedXBytes)) s) = [5] := by
  decide +kernel

theorem test_flush :
    reply .link1 (after (.flush .link1 (frame [])) moving) = [0, 0, 1] ∧ (after (.flush .link1 (frame [])) moving).queues.link1.stop = .flushed ∧
      reply .link1 (after (.flush .link1 (frame [])) (headed (.dwell 5) (.failed .limit) none mine)) = [0, 1, 0] ∧
      reply .link1 (after (.flush .link1 (frame [])) mine) = [0, 0, 0] ∧ moving.queues.link1.state = .running := by
  decide +kernel

theorem test_flush_running_stopping :
    (headed (.dwell 5) .executing (some 3) mine).queues.link1.state = .running ∧ (headed (.dwell 5) .executing (some 3) mine).queues.link1.moving = false ∧
      reply .link1 (after (.flush .link1 (frame [])) (headed (.dwell 5) .executing (some 3) mine)) = [0, 1, 0] ∧
      ({ moving.queues.link1 with stop := .flushed } : Queue).state = .stopping := by
  decide +kernel

theorem test_continue_queue :
    (after (.continueQueue .link1 (frame [])) (headed (.dwell 5) (.failed .limit) none mine)).queues.link1.entries = [] ∧
      reply .link1 (after (.continueQueue .link1 (frame [])) mine) = [13] := by
  decide +kernel

theorem test_read_queue :
    reply .link2 (after (.readQueue .link2 (frame [1])) (headed (.dwell 5) .executing (some 3) base)) = [0, 1, 1, 0, 5, 4, 1, 0, 0, 0, 3, 0] := by
  decide +kernel

theorem test_read_probe :
    (reply .link1 (after (.readProbe .link1 (frame [])) base)).length = 24 := by
  decide +kernel

theorem test_read_positions :
    (reply .link1 (after (.readPositions .link1 (frame [])) (withX (fun u => { u with cmd := -1 }) base))).take 5 = [0, 255, 255, 255, 255] := by
  decide +kernel

theorem test_preset :
    (after (.preset .link1 (frame [0, 0, 0, 1, 0])) mine).axes.x.cmd = 256 ∧ (after (.preset .link1 (frame [0, 0, 0, 1, 0])) mine).axes.x.meas = 256 ∧
      (after (.preset .link1 (frame [0, 0, 0, 1, 0])) mine).planned.link1.x = some 256 ∧ mine.presetTest .x 256 = none ∧ mine.standing .x = true := by
  decide +kernel

theorem test_preset_refused :
    reply .link1 (after (.preset .link1 (frame [0, 255, 255, 255, 255])) mine) = [9] ∧ reply .link1 (after (.preset .link1 (frame [0, 127, 0, 0, 0])) mine) = [6] ∧
      reply .link1 (after (.preset .link1 (frame [0, 0, 0, 1, 0])) moving) = [4] := by
  decide +kernel

theorem test_comp_window :
    (after (.compWindow .link1 (frame [0, 3, 5, 1])) mine).axes.x.window = { first := 3, last := 5, pointer := some 3, method := .stop } ∧
      reply .link1 (after (.compWindow .link1 (frame [0, 5, 3, 1])) mine) = [6] ∧ reply .link1 (after (.compWindow .link1 (frame [0, 0, 64, 0])) mine) = [6] := by
  decide +kernel

theorem test_comp_data :
    reply .link1 (after (.compData .link1 (frame [0, 8, 0])) mine) = [0, 1, 0, 1] ∧
      (after (.compData .link1 (frame [0, 8, 0])) mine).config.comp.x.head? = some 1000 ∧
      reply .link1 (after (.compData .link1 (frame [0, 8, 0])) (withX (fun u => { u with window := { u.window with pointer := none } }) mine)) = [0, 0, 1, 255] ∧
      reply .link1 (after (.compData .link1 (frame [0, 8, 0])) (withX (fun u => { u with window := { u.window with pointer := some 63 } }) mine)) = [0, 1, 0, 255] ∧
      reply .link1 (after (.compData .link1 (frame [0, 8, 0])) (withX (fun u => { u with window := { u.window with pointer := some 63, method := .wrap } }) mine)) =
        [0, 1, 0, 0] := by
  decide +kernel

theorem test_comp_enable_worked :
    let s := { withX (fun u => { u with cmd := 250000, out := 250000, meas := 250000 }) open1 with config := { open1.config with comp := { open1.config.comp with x := (List.replicate 64 0).set 2 90 |>.set 3 130 } } }
    reply .link1 (after (.compEnable .link1 (frame [0])) s) = [0, 0, 110] ∧ (periods 3 (after (.compEnable .link1 (frame [0])) s)).axes.x.out = 250110 ∧
      (periods 3 (after (.compEnable .link1 (frame [0])) s)).axes.x.takeUp = none ∧ (periods 2 (after (.compEnable .link1 (frame [0])) s)).axes.x.out = 250080 := by
  decide +kernel

theorem test_comp_disable :
    reply .link1 (after (.compDisable .link1 (frame [0])) open1) = [0, 255, 255] ∧
      reply .link1 (after (.compDisable .link1 (frame [0])) (withX (fun u => { u with compEnabled := true }) open1)) = [0, 0, 0] ∧
      reply .link1 (after (.compEnable .link1 (frame [0])) mine) = [11] := by
  decide +kernel

theorem test_comp_table_example :
    let par := { WorkingConfig.factory.axes.x with compOrigin := 0 }
    let tab := (List.replicate 64 (0 : Int)).set 0 4 |>.set 3 12 |>.set 4 (-6)
    compAt par tab (-2000) = 4 ∧ compAt par tab 300000 = 12 ∧ compAt par tab 333333 = 6 ∧ compAt par tab 350000 = 3 ∧ compAt par tab 6300000 = 0 := by
  decide +kernel

theorem test_read_comp :
    (reply .link1 (after (.readComp .link1 (frame [0, 62, 2])) base)).length = 24 ∧ reply .link1 (after (.readComp .link1 (frame [0, 63, 2])) base) = [6] := by
  decide +kernel

theorem test_zone_set :
    reply .link1 (after (.zoneSet .link1 (frame [1, 0, 0, 1, 134, 160, 0, 1, 138, 136])) base) = [0, 0] ∧
      reply .link1 (after (.zoneSet .link1 (frame [1, 1, 0, 1, 134, 160, 0, 1, 138, 136])) base) = [3] ∧
      (after (.zoneSet .link1 (frame [1, 1, 0, 1, 134, 160, 0, 1, 138, 136])) mine).config.pinned.length = 1 ∧
      reply .link1 (after (.zoneSet .link1 (frame [1, 0, 0, 1, 134, 160, 0, 1, 138, 136])) (withX (fun u => { u with cmd := 100000 }) base)) = [13] := by
  decide +kernel

theorem test_zone_set_full :
    let z : Zone := (PerAxis.const none).set .y (some { lo := 5, hi := 9 })
    reply .link1 (after (.zoneSet .link1 (frame [1, 0, 0, 1, 134, 160, 0, 1, 138, 136])) { base with zones := List.replicate 16 (some { pinned := false, zone := z }) }) = [5] := by
  decide +kernel

theorem test_zone_clear :
    let z : Zone := (PerAxis.const none).set .y (some { lo := 5, hi := 9 })
    let s := { base with zones := [some { pinned := true, zone := z }, some { pinned := false, zone := z }] ++ List.replicate 14 none }
    reply .link1 (after (.zoneClear .link1 (frame [1])) s) = [0, 1] ∧ reply .link1 (after (.zoneClear .link1 (frame [0])) s) = [13] ∧
      reply .link1 (after (.zoneClear .link1 (frame [15])) s) = [0, 0] ∧ reply .link1 (after (.zoneClear .link1 (frame [16])) s) = [6] := by
  decide +kernel

theorem test_zone_purge :
    let z : Zone := (PerAxis.const none).set .y (some { lo := 5, hi := 9 })
    let s := { base with zones := [some { pinned := true, zone := z }, some { pinned := false, zone := z }] ++ List.replicate 14 none }
    reply .link1 (after (.zonePurge .link1 (frame [2, 0, 0, 0, 9, 0, 0, 0, 10])) s) = [0, 1] ∧
      reply .link1 (after (.zonePurge .link1 (frame [2, 0, 0, 0, 10, 0, 0, 0, 11])) s) = [0, 0] ∧
      (decZone 2 [0, 0, 0, 9, 0, 0, 0, 10]).isSome = true := by
  decide +kernel

theorem test_read_zones :
    reply .link1 (after (.readZones .link1 (frame [])) base) = 0 :: List.replicate 17 0 := by
  decide +kernel

theorem test_handwheel :
    reply .link1 (after (.handwheel .link1 (frame [0, 0, 5, 2])) mine) = [0, 0, 0, 1, 244, 0, 0, 1, 244] ∧
      (after (.handwheel .link1 (frame [0, 0, 5, 2])) mine).clamps.x.state = .releaseWait ∧
      (after (.handwheel .link1 (frame [0, 0, 5, 2])) mine).hands.x.handReleased = true ∧
      (after (.handwheel .link1 (frame [0, 127, 255, 2])) mine).hands.x.pending = 10000 := by
  decide +kernel

theorem test_handwheel_moves :
    (after .motionPeriod (after (.handwheel .link1 (frame [0, 0, 50, 0])) open1)).axes.x.cmd = 40 ∧
      (periods 2 (after (.handwheel .link1 (frame [0, 0, 50, 0])) open1)).axes.x.cmd = 50 ∧
      reply .link1 (after (.handwheel .link1 (frame [0, 0, 50, 0])) { open1 with inputs := { open1.inputs with enabling := false } }) = [13] := by
  decide +kernel

theorem test_jog_worked_example :
    let z : Zone := { (PerAxis.const none : Zone) with x := some { lo := 0, hi := 400000 }, z := some { lo := 1100010, hi := 1200000 } }
    let s (w : Int) : State :=
      { mine with
        zones := [none, none, none, some { pinned := false, zone := z }] ++ List.replicate 12 none
        axes := { mine.axes with
          x := { mine.axes.x with cmd := 300000 }, z := { mine.axes.z with cmd := 1099980 }, w := { mine.axes.w with cmd := w } } }
    (s 700000).allowedPosition .z 1100020 = 1100000 ∧ (s 690000).allowedPosition .z 1100020 = 1100009 := by
  decide +kernel

theorem test_clamp_release :
    (after (.clamp .link1 (frame [3, 1])) up).clamps.y = { state := .releasing, valve := true, auto := false, timer := some 1500 } ∧
      reply .link1 (after (.clamp .link1 (frame [3, 1])) up) = [0] ∧ reply .link1 (after (.clamp .link1 (frame [0, 1])) up) = [6] ∧
      decAxisSet 3 = some [.x, .y] := by
  decide +kernel

theorem test_clamp_engage :
    (after (.clamp .link1 (frame [1, 0])) open1).clamps.x.state = .engaging ∧ reply .link1 (after (.clamp .link1 (frame [1, 0])) moving) = [4] ∧
      reply .link1 (after (.clamp .link1 (frame [1, 1])) { mine with hyd := { Hyd.stopped with state := .lost } }) = [14] := by
  decide +kernel

theorem test_spindle_runs :
    reply .link1 (after (.spindle .link1 (frame [3, 232, 0])) mine) = [0, 2, 3, 232] ∧ (after (.spindle .link1 (frame [3, 232, 0])) mine).spindle.cmdCode = 26214 ∧
      mine.config.chooseRange (some .ii) 1000 = .ii ∧ (after (.spindle .link1 (frame [0, 100, 1])) mine).spindle.state = .shifting .i .hyd := by
  decide +kernel

theorem test_spindle_stops :
    (after (.spindle .link1 (frame [0, 0, 0])) turning).spindle.state = .stopping ∧ reply .link1 (after (.spindle .link1 (frame [46, 225, 0])) mine) = [6] ∧
      reply .link2 (after (.spindle .link2 (frame [0, 0, 0])) mine) = [3] ∧ (after (.spindle .link1 (frame [0, 0, 1])) mine).spindle.dir = .ccw := by
  decide +kernel

theorem test_shift :
    (after (.shift .link1 (frame [1])) up).spindle.state = .shifting .i .cylA ∧ (after (.shift .link1 (frame [1])) up).spindle.valves = { GearValves.allOff with a1 := true } ∧
      after (.shift .link1 (frame [2])) up = onlyReply up .link1 [0] ∧ reply .link1 (after (.shift .link1 (frame [1])) turning) = [4] ∧
      up.spindle.engaged = up.rangeReading := by
  decide +kernel

theorem test_coolant_modes :
    reply .link1 (after (.coolant .link1 (frame [3])) mine) = [0, 3, 1, 1] ∧ (after (.coolant .link1 (frame [1])) mine).coolant.floodPump = true ∧
      (after (.coolant .link1 (frame [2])) { mine with spindle := { mine.spindle with measured := 1000 } }).coolant.through = .priming ∧
      (after (.coolant .link1 (frame [2])) { mine with spindle := { mine.spindle with measured := 999 } }).coolant.through = .waitSpindle := by
  decide +kernel

theorem test_coolant_refused :
    reply .link1 (after (.coolant .link1 (frame [1])) { mine with inputs := { inputs with lowLevel := true } }) = [13] ∧
      reply .link1 (after (.coolant .link1 (frame [0])) { mine with machine := .estop }) = [0, 0, 0, 0] ∧
      reply .link1 (after (.coolant .link1 (frame [4])) mine) = [6] := by
  decide +kernel

theorem test_config_write :
    reply .link1 (after (.configWrite .link1 (frame [3, 0, 0, 0, 0, 9])) mine) = [0, 1, 0] ∧ (after (.configWrite .link1 (frame [3, 0, 0, 0, 0, 9])) mine).config.axes.x.rateMax = 9 ∧
      reply .link1 (after (.configWrite .link1 (frame [3, 0, 0, 0, 0, 0])) mine) = [0, 0, 6] ∧ reply .link2 (after (.configWrite .link2 (frame [3, 0, 0, 0, 0, 9])) mine) = [0, 0, 3] ∧
      Param.ofId 99 0 = none := by
  decide +kernel

theorem test_config_write_refused :
    reply .link1 (after (.configWrite .link1 (frame [68, 0, 0, 0, 58, 152])) turning) = [0, 0, 4] ∧
      reply .link1 (after (.configWrite .link1 (frame [13, 0, 0, 0, 0, 0])) (withX (fun u => { u with compEnabled := true }) mine)) = [0, 0, 13] ∧
      reply .link1 (after (.configWrite .link1 (frame [3, 0, 0, 0, 0, 9])) { mine with store := { defaults := false, op := .reloading .link1 true } }) = [0, 0, 4] := by
  decide +kernel

theorem test_config_read :
    reply .link1 (after (.configRead .link1 (frame [2, 0, 35, 0])) base) = [0, 2, 2, 0, 0, 38, 37, 160, 35, 0, 0, 0, 0, 0] ∧ Param.ofId 2 0 = some (.axis .x 2) := by
  decide +kernel

theorem test_config_store :
    reply .link1 (after (.configStore .link1 (frame [])) mine) = [0] ∧ reply .link2 (after (.configStore .link2 (frame [])) mine) = [3] ∧
      reply .link1 (after (.configStore .link1 (frame [])) { mine with store := { defaults := false, op := .reloading .link2 true } }) = [4] ∧ mine.hasAllClaims .link1 = true := by
  decide +kernel

theorem test_config_reload :
    (after (.configReload .link1 (frame [])) { mine with machine := .estop }).store.op = .reloading .link1 false ∧
      reply .link1 (after (.configReload .link1 (frame [])) mine) = [13] ∧
      reply .link1 (after (.configReload .link1 (frame [])) { mine with machine := .estop, store := { defaults := false, op := .reloading .link2 true } }) = [4] := by
  decide +kernel

theorem test_drive_codes :
    WorkingConfig.factory.driveCode .ii 1000 = 26214 ∧ WorkingConfig.factory.driveCode .iv 12000 = 65535 ∧ ({ base with overrides := { base.overrides with spindle := 120 } }).effectiveSpeed .ii 2400 = 2500 := by
  decide +kernel

/-! ### States and operands that meet the hypotheses of the statements -/

theorem test_meets_ChainOpening :
    open1.machine = .run ∧ ValveLaw open1 ∧ SpindleLaw open1 :=
  ⟨by decide +kernel, test_open1_valves, by
    change AtRest open1.spindle ∧ open1.spindle.valves = .allOff ∧ (open1.machine ≠ .start → open1.spindle.engaged = open1.rangeReading)
    unfold AtRest
    decide +kernel⟩

theorem test_meets_FollowUpAndRest :
    ({ base with machine := .estop }).followUp .x = true ∧ ({ base with machine := .estop }).standing .x = true ∧ mine.followUp .x = false ∧
      mine.standing .x = true ∧ mine.followingExceeded .x = false :=
  by decide +kernel

theorem test_meets_MovePeriod :
    moving.machine = .run ∧ moving.moves.get .link1 = some (open1.moveOf feedX) ∧ (moving.queues.get .link1).moving = true ∧
      (∀ q, q ≠ .link1 → moving.moves.get q = none) ∧ (∀ a, (moving.hands.get a).pending = 0) ∧ (∀ a, (moving.axes.get a).fault = none) ∧
      (∀ a, moving.followingExceeded a = false) ∧ ((open1.moveOf feedX).axes.map (·.axis)).Nodup ∧
      ((open1.moveOf feedX).advance (moving.ceiling (open1.moveOf feedX))).2 = .goes ∧
      (∀ j ∈ (open1.moveOf feedX).axes,
        beyondBound (moving.axes.get j.axis).cmd (((open1.moveOf feedX).advance (moving.ceiling (open1.moveOf feedX))).1.position j) = false) :=
  ⟨by decide +kernel, by decide +kernel, by decide +kernel, all_ports (by decide +kernel), all_axes (by decide +kernel), all_axes (by decide +kernel), all_axes (by decide +kernel), by decide +kernel⟩

theorem test_meets_PressureLossStart :
    let s := { mine with hyd := { Hyd.stopped with state := .starting, pump := true, startTimer := some 1 } }
    ValveLaw s ∧ s.hyd.state = .starting ∧ s.hyd.startTimer ≠ none :=
  ⟨⟨all_axes (by decide +kernel), all_axes (by decide +kernel)⟩, by decide +kernel⟩

theorem test_meets_PressureLossDip :
    let s := { open1 with hyd := { open1.hyd with dipTimer := some 1 } }
    ValveLaw s ∧ s.hyd.state = .up ∧ s.hyd.dipTimer ≠ none :=
  ⟨⟨all_axes (by decide +kernel), all_axes (by decide +kernel)⟩, by decide +kernel⟩

theorem test_meets_RunOn :
    let s := { up with hyd := { up.hyd with runonTimer := some 1 } }
    Quiet s ∧ s.hyd.state = .up ∧ s.hyd.runonTimer ≠ none ∧ s.demand = false ∧ s.spindle.state = .stopped :=
  ⟨quiet_of mine_quiet rfl rfl rfl, by decide +kernel⟩

theorem test_meets_IdleTimer :
    let s := (open1.updClamp .x (fun c => { c with auto := true })).updHand .x (fun h => { h with handReleased := true, idle := some 1 })
    Quiet s ∧ (s.hands.get .x).idle ≠ none ∧ (s.clamps.get .x).auto = true ∧ (s.clamps.get .x).state.demands = true :=
  ⟨quiet_of mine_quiet rfl rfl rfl, by decide +kernel⟩

theorem test_meets_DwellAndWait :
    (headed (.dwell 5) .executing (some 0) mine).moves.get .link1 = none ∧
      (headed (.dwell 5) .executing (some 0) mine).queues.get .link1 =
        { entries := [{ tag := 5, kind := .dwell 5 }], head := .executing, stop := .running, timer := some 0 } ∧
      (headed (.wait .atSpeed 5) .executing (some 0) mine).queues.get .link1 =
        { entries := [{ tag := 5, kind := .wait .atSpeed 5 }], head := .executing, stop := .running, timer := some 0 } ∧
      mine.holds.isEmpty = true :=
  by decide +kernel

theorem test_meets_SpindleEdges :
    let s (w : Option (Nat × Nat)) : State := { base with spindle := { base.spindle with tach := .period w } }
    (s none).spindle.tach = .period none ∧ (s (some (0, 14))).spindle.tach = .period (some (0, 14)) ∧
      (s (some (0, 15))).spindle.tach = .period (some (0, 15)) :=
  by decide +kernel

theorem test_meets_AtSpeedTimer :
    let s := { turning with spindle := { turning.spindle with atSpeedTimer := some 1 } }
    Quiet s ∧ s.spindle.state = .running ∧ s.spindle.atSpeedTimer ≠ none :=
  ⟨quiet_of mine_quiet rfl rfl rfl, by decide +kernel⟩

theorem test_meets_SpindleFaults :
    let s := { turning with spindle := { turning.spindle with state := .stopping, stopTimer := some 1 } }
    s.spindle.state.isFault = false ∧ s.spindle.stopTimer ≠ none ∧ s.inputs.spindleReady ≠ false ∧ s.machine ≠ .start :=
  by decide +kernel

theorem test_meets_GearSwitches :
    Quiet base ∧ base.machine ≠ .start ∧ base.spindle.state = .stopped ∧ Inputs.gear base.inputs .b1 ≠ false ∧
      turning.spindle.state = .running ∧ ({ turning with inputs := Inputs.setGear turning.inputs .a2 false }).rangeReading ≠ turning.spindle.engaged :=
  ⟨base_quiet, by decide +kernel⟩

theorem test_meets_Coolant :
    let s := { turning with coolant := { mode := .through, flood := .off, through := .priming, floodPump := false, throughPump := true, primeTimer := some 5, lossTimer := none } }
    Quiet s ∧ s.coolant.primeTimer ≠ none ∧ s.inputs.coolantPressure ≠ true ∧ s.inputs.lowLevel ≠ true ∧ s.machine ≠ .start :=
  ⟨quiet_of mine_quiet rfl rfl rfl, by decide +kernel⟩

theorem test_meets_BreakPhases :
    let s := after (.setOverride .link1 { bytes := [3, 200], bits := [] }) base
    (s.ports.get .link1).phase = .parameters 19 3 [200] ∧ s.machine ≠ .start ∧ (s.ports.get .link1).state = .active :=
  by decide +kernel

theorem test_meets_Reload :
    let s := { mine with
      machine := .resetWait, store := { defaults := true, op := .reloading .link1 false }
      serial := ((List.range 1116).zip WorkingConfig.factory.image).filter (fun c => decide (c.2 ≠ 0)) }
    s.store.op = .reloading .link1 false ∧ s.readImage true = some WorkingConfig.factory :=
  by decide +kernel

theorem test_meets_Store :
    let s := { mine with store := { defaults := true, op := .storing .link1 [1, 0, 3] } }
    s.store.op = .storing .link1 [1, 0, 3] ∧ Memory.wf s.serial = true ∧ [1, 0, 3].length ≤ serialSize :=
  by decide +kernel

theorem test_meets_Admission :
    linkRow (.unknownCommand .link1 5 { bytes := [1, 9], bits := [] }) = some (.link1, 5, { bytes := [1, 9], bits := [] }) ∧
      linkRow (.hold .link1 { bytes := [0], bits := [] }) = some (.link1, 17, { bytes := [0], bits := [] }) ∧
      ({ bytes := [1, 9], bits := [] } : Clocked).complete = true ∧ ({ bytes := [0], bits := [] } : Clocked).complete = true ∧
      ((base.ports.get .link1).phase = .idle ∧ (base.ports.get .link1).bits = [] ∧ (base.ports.get .link1).select = false) ∧ Cmd.ofCode 5 = none ∧ Cmd.ofCode 17 = some .hold ∧ Cmd.hold.lengthOk 0 = true :=
  by decide +kernel

theorem test_meets_Claim :
    Ready base .link1 ∧ decResourceSet 127 = some Resource.all ∧ (∀ r ∈ Resource.all, base.isTaken .link1 r = false) ∧
      (∀ r ∈ Resource.all, base.listFull .link1 r = false) :=
  ⟨ready_of (by decide +kernel), by decide +kernel⟩

theorem test_meets_Release :
    Ready mine .link1 ∧ ClaimLaw mine ∧ decResourceSet 3 = some [.axis .x, .axis .y] ∧ mine.hasClaim .link1 (.axis .x) = true ∧
      mine.queues.link1.names (.axis .x) = false ∧ mine.hands.x.pending = 0 ∧ mine.axes.x.takeUp = none :=
  ⟨mine_ready, test_mine_claims, by decide +kernel⟩

theorem test_meets_HandOver :
    Ready mine .link1 ∧ mine.hasClaim .link1 (.axis .x) = true ∧ (mine.ports.get .link2).state = .active ∧
      (mine.queues.get .link1).names (.axis .x) = false :=
  ⟨mine_ready, by decide +kernel⟩

theorem test_meets_QueueEntry :
    Ready mine .link1 ∧ decEntry feedXBytes = some feedX ∧ feedXBytes.length = 18 ∧ mine.queues.link1.state ≠ .stopping ∧
      (∀ r ∈ feedX.kind.names, mine.hasClaim .link1 r = true) ∧ mine.entryMotionCheck .link1 feedX.kind = none :=
  ⟨mine_ready, by decide +kernel⟩

theorem test_meets_Flush :
    Ready moving .link1 ∧ moving.queues.link1.state = .running ∧ moving.queues.link1.moving = true ∧
      moving.moves.get .link1 = some (open1.moveOf feedX) ∧ (∀ j ∈ (open1.moveOf feedX).axes, (moving.axes.get j.axis).fault = none) :=
  ⟨ready_of (by decide +kernel), by decide +kernel⟩

theorem test_meets_Quiet :
    Quiet mine ∧ Quiet up ∧ Quiet turning :=
  ⟨mine_quiet, quiet_of mine_quiet rfl rfl rfl, quiet_of mine_quiet rfl rfl rfl⟩

theorem test_meets_Preset :
    Ready mine .link1 ∧ mine.hasClaim .link1 (.axis .x) = true ∧ mine.axes.x.fault = none ∧ mine.axes.x.compEnabled = false ∧ mine.standing .x = true ∧
      mine.queues.link1.names (.axis .x) = false ∧ mine.presetTest .x (s32 0 0 1 0) = none :=
  ⟨mine_ready, by decide +kernel⟩

theorem test_meets_Clamp :
    Ready up .link1 ∧ decAxisSet 3 = some [.x, .y] ∧ (∀ a ∈ [Axis.x, .y], up.hasClaim .link1 (.axis a) = true) ∧
      (∀ a ∈ [Axis.x, .y], (up.clamps.get a).state.isFault = false) ∧
      (∀ a ∈ [Axis.x, .y], up.standing a = true ∧ (up.queues.get .link1).names (.axis a) = false) ∧ up.hyd.state ≠ .lost :=
  ⟨ready_of (by decide +kernel), by decide +kernel⟩

theorem test_meets_SpindleLawAndReload :
    SpindleInv turning ∧ CoolantInv turning ∧ PendingLaw turning ∧ BoundsLaw turning ∧ Memory.wf turning.serial = true :=
  ⟨⟨by
      change turning.machine = .run ∧ turning.spindle.engaged = turning.rangeReading ∧ turning.spindle.engaged ≠ none ∧
        turning.spindle.valves = .allOff
      decide +kernel, all_ports (by decide +kernel)⟩,
    ⟨by constructor <;> decide +kernel,
      all_ports (by decide +kernel)⟩,
    all_axes (by decide +kernel), all_ports (by decide +kernel), by decide +kernel⟩

theorem test_meets_ConfigSound :
    ConfigSound WorkingConfig.factory :=
  ⟨List.all_eq_true.mp (show Param.stored.all (fun q => WorkingConfig.factory.inBounds q (WorkingConfig.factory.get q)) = true by decide +kernel),
    by decide +kernel, ⟨by decide +kernel, fun z hz => by simp [WorkingConfig.factory] at hz⟩, all_axes (by decide +kernel)⟩

theorem test_meets_ImageReadsBack :
    decodeImage WorkingConfig.factory.image = some WorkingConfig.factory :=
  by decide +kernel

theorem test_meets_MachineReset :
    let s := withX (fun u => { u with fault := some .drive }) { mine with machine := .resetWait, spindle := { mine.spindle with state := .fault .drive } }
    Ready s .link1 ∧ Quiet s ∧ s.machine = .resetWait ∧ (s.axes.get .x).fault ≠ none ∧ (s.axes.get .y).fault = none ∧ s.inputs.driveReady.get .x = true ∧
      s.recentIllegal .x = false ∧ (s.clamps.get .x).state.isFault = false ∧ s.spindle.state.isFault = true ∧ s.inputs.spindleReady = true :=
  ⟨ready_of (by decide +kernel), quiet_of mine_quiet rfl rfl rfl, by decide +kernel⟩

theorem test_meets_HoldAndOverride :
    Ready turning .link1 ∧ Quiet turning ∧ turning.holds.links.get .link1 = false ∧ turning.spindle.state = .running ∧ turning.spindle.engaged = some .ii :=
  ⟨ready_of (by decide +kernel), quiet_of mine_quiet rfl rfl rfl, by decide +kernel⟩

theorem test_meets_PressureSwitch :
    mine.config.hydRunon ≠ 0 ∧ mine.inputs.hydPressure ≠ true ∧
      ({ mine with hyd := { Hyd.stopped with state := .starting, pump := true, startTimer := some 1 } }).hyd.state = .starting ∧
      up.inputs.hydPressure ≠ false ∧ up.hyd.state = .up :=
  by decide +kernel

theorem test_meets_Silence :
    let s := { moving with ports := { moving.ports with link1 := { moving.ports.link1 with silence := some 1 } } }
    (s.ports.get .link1).silence ≠ none ∧ (moving.ports.get .link1).silence = none ∧ s.hasClaim .link1 (.axis .x) = true :=
  by decide +kernel

theorem test_meets_WiggleHalf :
    let s := { up with spindle := { up.spindle with state := .shifting .i .cylA, cmdCode := 1311, cmdDir := some .fwd, halfTimer := some 1 } }
    s.spindle.state = .shifting .i .cylA ∧ s.readA ≠ some GearRange.i.wantA ∧ s.spindle.halfTimer ≠ none ∧ s.spindle.cmdDir = some .fwd :=
  by decide +kernel

theorem test_meets_CompWindowAndData :
    Ready mine .link1 ∧ mine.hasClaim .link1 (.axis .x) = true ∧ (mine.axes.get .x).compEnabled = false ∧ (mine.axes.get .x).window.pointer = some 0 ∧
      ((withX (fun u => { u with window := { u.window with pointer := none } }) mine).axes.get .x).window.pointer = none :=
  ⟨mine_ready, by decide +kernel⟩

theorem test_meets_CompEnable :
    Ready open1 .link1 ∧ open1.hasClaim .link1 (.axis .x) = true ∧ open1.machine = .run ∧ (open1.axes.get .x).compEnabled = false ∧
      (open1.axes.get .x).referenced = true ∧ (open1.axes.get .x).fault = none ∧ open1.standing .x = true ∧ (open1.clamps.get .x).state = .released :=
  ⟨ready_of (by decide +kernel), by decide +kernel⟩

theorem test_meets_ZoneSet :
    let z : Zone := (PerAxis.const none).set .x (some { lo := 100000, hi := 101000 })
    Ready mine .link1 ∧ decZone 1 [0, 1, 134, 160, 0, 1, 138, 136] = some z ∧ mine.hasAllClaims .link1 = true ∧ mine.evaluated z = true ∧
      pointInside mine.positions z = false ∧ (∀ box ∈ mine.executingBoxes, boxMeets box z = false) ∧ mine.config.pinned.length < 8 ∧
      mine.zones[0]? = some none ∧ none ∉ mine.zones.take 0 :=
  ⟨mine_ready, by decide +kernel⟩

theorem test_meets_Handwheel :
    Ready mine .link1 ∧ Quiet mine ∧ mine.hasClaim .link1 (.axis .x) = true ∧ mine.machine = .run ∧ mine.inputs.enabling = true ∧ mine.holds.isEmpty = true ∧
      (mine.axes.get .x).fault = none ∧ (mine.queues.get .link1).names (.axis .x) = false ∧ (mine.axes.get .x).takeUp = none ∧
      (mine.clamps.get .x).state = .engaged ∧ mine.hyd.state ≠ .lost :=
  ⟨mine_ready, mine_quiet, by decide +kernel⟩

theorem test_meets_SpindleTarget :
    Ready mine .link1 ∧ Quiet mine ∧ mine.hasClaim .link1 .spindle = true ∧ mine.machine = .run ∧ mine.spindle.state = .stopped ∧ 
      mine.spindle.engaged = some (mine.config.chooseRange mine.spindle.currentRange (u16 3 232)) ∧ u16 46 224 = 12000 :=
  ⟨mine_ready, mine_quiet, by decide +kernel⟩

theorem test_meets_Shift :
    Ready up .link1 ∧ Quiet up ∧ up.hasClaim .link1 .spindle = true ∧ up.machine = .run ∧ up.spindle.state = .stopped ∧ up.hyd.state ≠ .lost ∧
      up.spindle.engaged ≠ some .i ∧ up.spindle.engaged = up.rangeReading :=
  ⟨ready_of (by decide +kernel), quiet_of mine_quiet rfl rfl rfl, by decide +kernel⟩

theorem test_meets_CoolantMode :
    Ready mine .link1 ∧ Quiet mine ∧ mine.hasClaim .link1 .coolant = true ∧ mine.machine = .run ∧ mine.inputs.lowLevel = false :=
  ⟨mine_ready, mine_quiet, by decide +kernel⟩

theorem test_meets_ConfigWrite :
    Ready mine .link1 ∧ Param.ofId 3 0 = some (.axis .x 3) ∧ mine.config.inBounds (.axis .x 3) 1 = true ∧ mine.config.inBounds (.axis .x 3) 500 = true ∧
      mine.config.inBounds (.axis .x 3) 501 = false ∧ (mine.config.put (.axis .x 3) 500).crossOk = true ∧ mine.store.reloadOn = false ∧
      mine.groupClaim .link1 (.axis .x 3) = true ∧ mine.groupAtRest (.axis .x 3) = true ∧ mine.groupCompFree (.axis .x 3) = true ∧
      mine.hasAllClaims .link1 = true ∧ mine.store.op = .idle :=
  ⟨mine_ready, by decide +kernel⟩

theorem test_meets_SwitchRows :
    ∀ i ∈ [SwitchInput.home .x, .driveReady .x, .clamp .x .engaged, .hydPressure, .enabling, .panelHold, .spindleReady, .gear .a2, .coolantPressure, .lowLevel],
      mine.conditioner.get i = none ∧ (mine.setDebounce i (some 0)).conditioner.get i ≠ none ∧
        (mine.setDebounce i (some 0)).rawLevel i ≠ Inputs.level mine.inputs i :=
  by decide +kernel

theorem test_meets_RawChange :
    after (.gearSwitchChange .a2 (.raw true)) base = base ∧ (after (.gearSwitchChange .a2 (.raw false)) base).conditioner.gearA2 = some 20 ∧
      (after (.gearSwitchChange .a2 (.raw true)) (after (.gearSwitchChange .a2 (.raw false)) base)).conditioner.gearA2 = none ∧
      (after (.lowLevelSwitchChange (.raw true)) base).conditioner.lowLevel = some 1000 ∧
      (periods 19 (after (.gearSwitchChange .a2 (.raw false)) base)).conditioner.gearA2 = some 1 ∧
      (after (.gearSwitchChange .a2 (.raw false)) (periods 5 (after (.gearSwitchChange .a2 (.raw false)) base))).conditioner.gearA2 = some 15 :=
  by decide +kernel

theorem test_meets_ClampStages :
    let s := { up.updClamp .x (fun _ => { state := .releasing, valve := true, auto := true, timer := some 9 }) with inputs := { up.inputs with clampEngaged := up.inputs.clampEngaged.set .x false } }
    let r := { up.updClamp .x (fun _ => { state := .engaging, valve := false, auto := true, timer := some 9 }) with inputs := { up.inputs with clampEngaged := up.inputs.clampEngaged.set .x false } }
    Quiet s ∧ Quiet r ∧ s.machine ≠ .start ∧ s.clamps.x.state = .releasing ∧ r.clamps.x.state = .engaging ∧
      ({ s with inputs := Inputs.setClampSwitch s.inputs .x .released true }).agreeReleased .x = true ∧
      ({ r with inputs := Inputs.setClampSwitch r.inputs .x .engaged true }).agreeEngaged .x = true ∧
      (ends (.clamp .x .released) s).clamps.x = { state := .released, valve := true, auto := true, timer := none } ∧
      (ends (.clamp .x .engaged) r).clamps.x = { state := .engaged, valve := false, auto := false, timer := none } :=
  ⟨quiet_of mine_quiet rfl rfl rfl, quiet_of mine_quiet rfl rfl rfl, by decide +kernel⟩

theorem test_meets_HydStageEnds :
    let s := { mine with
      hyd := { Hyd.stopped with state := .starting, pump := true, startTimer := some 9 }, spindle := { mine.spindle with state := .shifting .i .hyd } }
    Quiet s ∧ s.config.hydRunon ≠ 0 ∧ s.inputs.hydPressure ≠ true ∧ s.rangeReading ≠ some .i ∧
      (ends .hydPressure s).spindle.state = .shifting .i (firstStage s .i) ∧ firstStage s .i = .cylA ∧ firstStage s .iv = .cylB :=
  ⟨quiet_of mine_quiet rfl rfl rfl, by decide +kernel⟩

theorem test_meets_StandstillEndsStopping :
    let s := { mine with spindle := { mine.spindle with state := .stopping, standstill := false, standstillTimer := some 0, stopTimer := some 9 } }
    Quiet s ∧ s.spindle.outCode = 0 ∧ s.spindle.relay = none ∧ (after .standstillTimerExpiry s).spindle.state = .stopped :=
  ⟨quiet_of mine_quiet rfl rfl rfl, by decide +kernel⟩

theorem test_meets_StandstillEndsHalt :
    let s (h : Hyd) : State := { mine with hyd := h, spindle := { mine.spindle with state := .shifting .i .halt, standstill := false, standstillTimer := some 0, stopTimer := some 9 } }
    let lost := s { Hyd.stopped with state := .lost }
    let starting := (s { Hyd.stopped with state := .starting, pump := true, startTimer := some 9 }).updClamp .x (fun c => { c with state := .releaseWait })
    let off := s Hyd.stopped
    let isUp := s { Hyd.stopped with state := .up, pump := true, runonTimer := some 9 }
    Quiet lost ∧ Quiet starting ∧ Quiet off ∧ Quiet isUp ∧ starting.demand = true ∧ off.machine = .run ∧ off.inputs.hydPressure = false ∧
      isUp.rangeReading ≠ some .i ∧ (after .standstillTimerExpiry lost).spindle.state = .fault .hydraulic ∧
      (after .standstillTimerExpiry starting).spindle.state = .shifting .i .hyd ∧ (after .standstillTimerExpiry off).hyd.state = .starting ∧
      (after .standstillTimerExpiry isUp).spindle.state = .shifting .i .cylA :=
  ⟨quiet_of mine_quiet rfl rfl rfl, quiet_of mine_quiet rfl rfl rfl, quiet_of mine_quiet rfl rfl rfl, quiet_of mine_quiet rfl rfl rfl, by decide +kernel⟩

theorem test_meets_CylinderStages :
    let s (r : GearRange) (stage : ShiftStage) (b : Bool) (speed : Nat) : State :=
      { mine with
        inputs := { mine.inputs with gearA1 := false, gearA2 := false, gearB1 := true, gearB2 := false }
        spindle := { mine.spindle with state := .shifting r stage, moveB := b, speed := speed, cmdCode := 1311, cmdDir := some .fwd } }
    Quiet (s .i .cylA true 0) ∧ Inputs.gear (s .i .cylA true 0).inputs .a1 = false ∧
      (∀ g ∈ [GearSwitch.a1, .a2], (ends (.gear g) (s .iii .cylA true 0)).spindle.state = .shifting .iii (if g = .a1 then .cylB else .cylA)) ∧
      (ends (.gear .a1) (s .i .cylA false 0)).spindle.state = .stopped ∧ (ends (.gear .a1) (s .iii .cylA false 0)).spindle.state = .fault .rangeLost :=
  ⟨quiet_of mine_quiet rfl rfl rfl, by decide +kernel⟩

theorem test_meets_ShiftsEnd :
    let s (r : GearRange) (stage : ShiftStage) (b : Bool) (speed : Nat) : State :=
      { mine with
        inputs := { mine.inputs with gearA1 := true, gearA2 := false, gearB1 := false, gearB2 := false }
        spindle := { mine.spindle with state := .shifting r stage, moveB := b, speed := speed, cmdCode := 1311, cmdDir := some .fwd } }
    Quiet (s .i .cylB true 0) ∧ Quiet (s .i .cylB true 500) ∧ Quiet (s .i .cylB true 7000) ∧
      ({ s .i .cylB true 0 with inputs := Inputs.setGear (s .i .cylB true 0).inputs .b1 true }).rangeReading = some .i ∧
      mine.config.contains .i (mine.config.clampSpeed 500) = true ∧ mine.config.contains .i (mine.config.clampSpeed 7000) = false ∧
      mine.config.chooseRange (some .i) 7000 = .iv ∧ (ends (.gear .b1) (s .i .cylB true 0)).spindle.state = .stopped ∧
      (ends (.gear .b1) (s .i .cylB true 500)).spindle.state = .running ∧
      (ends (.gear .b1) (s .i .cylB true 7000)).spindle.state = .shifting .iv .hyd :=
  ⟨quiet_of mine_quiet rfl rfl rfl, quiet_of mine_quiet rfl rfl rfl, quiet_of mine_quiet rfl rfl rfl, by decide +kernel⟩

theorem test_meets_SpindleTargets :
    let stopping := { turning with spindle := { turning.spindle with state := .stopping, cmdCode := 0, cmdDir := none } }
    let waits := { mine with hyd := { Hyd.stopped with state := .starting, pump := true }, spindle := { mine.spindle with state := .shifting .i .hyd } }
    Ready stopping .link1 ∧ Quiet stopping ∧ Ready waits .link1 ∧ Quiet waits ∧ StageWaits waits ∧ stopping.spindle.quiet = false ∧
      mine.config.chooseRange stopping.spindle.currentRange 100 = .i ∧ stopping.spindle.engaged = some .ii ∧ stopping.rangeReading = some .ii ∧
      reply .link1 (after (.spindle .link1 (frame [0, 100, 0])) stopping) = [0, 1, 0, 100] ∧
      (after (.spindle .link1 (frame [0, 100, 0])) stopping).spindle.state = .shifting .i .halt ∧
      (after (.spindle .link1 (frame [0, 100, 0])) turning).spindle.state = .shifting .i .halt ∧
      (after (.spindle .link1 (frame [3, 232, 1])) stopping).spindle.state = .running ∧
      (after (.spindle .link1 (frame [0, 0, 1])) stopping).spindle.state = .stopping ∧
      (after (.spindle .link1 (frame [27, 88, 1])) waits).spindle.speed = 7000 ∧
      (after (.spindle .link1 (frame [0, 0, 1])) waits).spindle.state = .shifting .i .hyd :=
  ⟨ready_of (by decide +kernel), quiet_of mine_quiet rfl rfl rfl, ready_of (by decide +kernel), quiet_of mine_quiet rfl rfl rfl, Or.inl rfl, by decide +kernel⟩

theorem test_meets_RampsAndRelays :
    let s (code : Nat) (dir : Option DriveDir) : State := { turning with spindle := { turning.spindle with cmdCode := code, cmdDir := dir } }
    let rest := { turning with spindle := { turning.spindle with outCode := 0, relay := none } }
    Quiet (s 0 none) ∧ Quiet rest ∧ (after .motionPeriod (s 30000 (some .fwd))).spindle.outCode = 26258 ∧
      (after .motionPeriod (s 26200 (some .fwd))).spindle.outCode = 26200 ∧ (after .motionPeriod (s 0 none)).spindle.outCode = 26170 ∧
      (after .motionPeriod rest).spindle.relay = some .fwd ∧ (after .motionPeriod rest).spindle.outCode = 0 :=
  ⟨quiet_of mine_quiet rfl rfl rfl, quiet_of mine_quiet rfl rfl rfl, by decide +kernel⟩

theorem test_meets_TakeUpPeriod :
    let s (k : Int) : State := withX (fun u => { u with takeUp := some k }) open1
    (s 30).moveOn .x = false ∧ (s 30).hands.x.pending = 0 ∧ (s 30).followUp .x = false ∧ (s 30).followingExceeded .x = false ∧
      (after .motionPeriod (s 30)).axes.x.out = 30 ∧ (after .motionPeriod (s 30)).axes.x.takeUp = none ∧
      (after .motionPeriod (s (-90))).axes.x.out = -40 ∧ (after .motionPeriod (s (-90))).axes.x.takeUp = some (-90) :=
  by decide +kernel

theorem test_meets_HandMotion :
    let z : Zone := (PerAxis.const none).set .x (some { lo := 10, hi := 20 })
    let s : State := open1.updHand .x (fun h => { h with pending := 50 })
    let stopped : State := { s with zones := some { pinned := false, zone := z } :: List.replicate 15 none }
    (∀ c, c ≠ .x → (s.hands.get c).pending = 0) ∧ (∀ p, s.moves.get p = none) ∧ (∀ c, (s.axes.get c).fault = none) ∧
      (∀ c, s.followingExceeded c = false) ∧ s.machine = .run ∧ s.hands.x.pending ≠ 0 ∧ beyondBound 0 (s.allowedPosition .x 40) = false ∧
      s.allowedPosition .x 40 = 40 ∧ stopped.allowedPosition .x 40 = 9 ∧ (after .motionPeriod s).axes.x.cmd = 40 ∧
      (after .motionPeriod s).hands.x.pending = 10 ∧ (after .motionPeriod stopped).axes.x.cmd = 9 ∧
      (after .motionPeriod stopped).ports.link1.events = [.handLimited .x] ∧
      (after .motionPeriod (mine.updHand .x (fun h => { h with pending := 50 }))).axes.x.cmd = 0 :=
  ⟨all_axes (by decide +kernel), all_ports (by decide +kernel), all_axes (by decide +kernel), all_axes (by decide +kernel), by decide +kernel⟩

theorem test_meets_MovesEnd :
    let e : Entry := { tag := 9, kind := .probe [{ axis := .x, delta := 10 }] 10 120000 .auto }
    let next : Entry := { tag := 10, kind := .wait .spindleStopped 0 }
    let s (e : Entry) (seen stop : Bool) (at_ v : Nat) (cause : StopCause) : State :=
      { open1 with
        queues := { open1.queues with
          link1 := { entries := if cause = .running then [e, next] else [e], head := .executing, stop := cause, timer := none } }
        moves := { open1.moves with link1 := some { open1.moveOf e with s := at_, v := v, braking := true, seen := seen, stop := stop } } }
    let ended (s : State) : State := after .motionPeriod s
    (ended (s feedX false false 2496 64 .running)).ports.link1.events = [.entryDone 7 false, .entryDone 10 false] ∧
      (ended (s e true false 2496 64 .running)).ports.link1.events.head? = some (.entryDone 9 true) ∧
      (ended (s e false false 2496 64 .running)).ports.link1.events = [.entryFailed 9 .noTrigger] ∧
      (ended (s e true true 100 64 .running)).ports.link1.events.head? = some (.entryDone 9 true) ∧
      (ended (s feedX false true 100 64 .running)).ports.link1.events = [.entryFailed 7 .flushed] ∧
      (ended (s feedX false true 100 64 .flushed)).ports.link1.events = [.entryFailed 7 .flushed] ∧
      (ended (s feedX false true 2540 128 .flushed)).ports.link1.events = [.entryDone 7 false] ∧
      (ended (s e false true 2540 128 .flushed)).ports.link1.events = [.entryDone 9 false] ∧
      (ended (s e true true 2540 128 .flushed)).ports.link1.events = [.entryDone 9 true] ∧
      (ended (s feedX false true 100 64 .portLost)).queues.link1.entries = [] ∧
      ((open1.moveOf e).axes.map (·.axis)).Nodup ∧ (open1.moveOf e).kind = .probe :=
  by decide +kernel

theorem test_meets_ProbeLatch :
    let e : Entry := { tag := 9, kind := .probe [{ axis := .x, delta := 10 }] 10 120000 .auto }
    let bs : List Byte := [0, 9, 2, 1, 0, 0, 0, 0, 10, 0, 1, 212, 192, 0, 0, 0, 0, 10]
    let owned : State := { open1 with latch := { owner := some (.link2, 4), waiting := [.link3] } }
    Ready open1 .link1 ∧ (∀ a, (open1.axes.get a).fault = none) ∧ (∀ q, q ≠ .link1 → (owned.queues.get q).entries = []) ∧ decEntry bs = some e ∧ e.kind.isProbe = true ∧
      (∀ r ∈ e.kind.names, open1.hasClaim .link1 r = true) ∧ open1.entryMotionCheck .link1 e.kind = none ∧ open1.judgeEarly .link1 e.kind = .passes ∧
      open1.judgeClamps e.kind = .passes ∧ open1.holds.isEmpty = true ∧ open1.inputs.probe = false ∧
      (after (.queueEntry .link1 (frame bs)) open1).latch.owner = some (.link1, 9) ∧
      (after (.queueEntry .link1 (frame bs)) { open1 with inputs := { open1.inputs with probe := true } }).ports.link1.events =
        [.entryFailed 9 .probeActive] ∧
      (after (.queueEntry .link1 (frame bs)) owned).latch.waiting = [.link3, .link1] :=
  ⟨ready_of (by decide +kernel), all_axes (by decide +kernel), all_ports (by decide +kernel), by decide +kernel⟩

theorem test_meets_ProbeLatchOffered :
    let d : Entry := { tag := 3, kind := .feed [{ axis := .y, delta := 10 }] 10 120000 .noClamp }
    let e : Entry := { tag := 9, kind := .probe [{ axis := .x, delta := 10 }] 10 120000 .auto }
    let q : Queue := { entries := [e], head := .starting (some .probeLatch), stop := .running, timer := none }
    let s : State :=
      { heads q { entries := [d], head := .executing, stop := .running, timer := none } open1 with
        claims := { open1.claims with axes := open1.claims.axes.set .y (heldBy .link2) }
        moves := { open1.moves with link2 := some (open1.moveOf d) }, latch := { owner := some (.link2, 3), waiting := [.link1] } }
    (∀ c, (s.axes.get c).fault = none) ∧ (∀ o, o ≠ .link2 → o ≠ .link1 → (s.queues.get o).entries = [] ∧ s.moves.get o = none) ∧
      (open1.moveOf d).axes.any (fun j => decide (j.axis = .y)) = true ∧ d.kind.isMotion = true ∧ s.judgeEarly .link1 e.kind = .passes ∧ s.judgeClamps e.kind = .passes ∧
      .y ∉ e.kind.moveAxes ∧ (∀ c ∈ e.kind.moveAxes, c ∉ d.kind.moveAxes) ∧ s.inputs.driveReady.y = true ∧
      (ends (.driveReady .y) s).latch = { owner := some (.link1, 9), waiting := [] } ∧ (ends (.driveReady .y) s).queues.link2.head = .failed .axis :=
  ⟨all_axes (by decide +kernel), all_ports (by decide +kernel), by decide +kernel⟩

theorem test_meets_ClaimWaitsForALostRow :
    let s := { (mine.setRow (.axis .x) { state := .orphaned .link3, waiting := [] }).updClamp .x (fun c => { c with state := .engaging }) with
      inputs := { mine.inputs with clampEngaged := .const false } }
    decResourceSet 3 = some [.axis .x, .axis .y] ∧ s.listFull .link2 (.axis .x) = false ∧ s.orphanedFrom (.axis .x) = some .link3 ∧
      reply .link2 (after (.claim .link2 (frame [3, 1])) s) = [1, 0, 3] ∧ (after (.claim .link2 (frame [3, 1])) s).claims.axes.x.waiting = [.link2] :=
  by decide +kernel

theorem test_meets_ReleaseEngages :
    (open1.clamps.get .x).state.demands = true ∧ open1.hasClaim .link1 (.axis .x) = true ∧
      (after (.release .link1 (frame [1])) open1).clamps.x.state = .engaging ∧ (after (.release .link1 (frame [1])) open1).planned.link1.x = none ∧
      reply .link1 (after (.release .link1 (frame [1])) open1) = [0, 1, 0] ∧
      (after (.release .link1 (frame [1])) (open1.setRow (.axis .x) { state := .held .link1, waiting := [.link2] })).planned.link2.x = some 0 :=
  by decide +kernel

theorem test_meets_SilenceOrphans :
    let lose (s : State) : State := after (.silenceTimerExpiry .link1) (s.updPort .link1 (fun l => { l with silence := some 0 }))
    let spin : State := turning
    NothingQueued spin ∧ (∀ c, (moving.axes.get c).fault = none) ∧ spin.hasClaim .link1 .spindle = true ∧ spin.spindle.quiet = false ∧ moving.moveOn .x = true ∧
      moving.queues.link1.moving = true ∧ (moving.clamps.get .x).state.isFault = false ∧
      (lose moving).claims.axes.x = { state := .orphaned .link1, waiting := [] } ∧ (lose spin).claims.spindle.state = .orphaned .link1 ∧
      (lose spin).claims.coolant.state = .orphaned .link1 ∧ (lose spin).spindle.cmdDir = none ∧
      (lose (mine.setRow (.axis .x) { state := .held .link1, waiting := [.link2] })).claims.axes.x = heldBy .link2 ∧
      (lose (mine.setRow (.axis .x) { state := .held .link2, waiting := [.link3, .link1] })).claims.axes.x = { state := .held .link2, waiting := [.link3] } :=
  ⟨all_ports (by decide +kernel), all_axes (by decide +kernel), by decide +kernel⟩

theorem test_meets_OrphanedAxis :
    let s (c : Clamp) : State := ({ mine with hyd := up.hyd, inputs := { up.inputs with clampEngaged := .const false } }.updClamp .x (fun _ => c)).setRow (.axis .x) lostRow
    let engaging := s { state := .engaging, valve := false, auto := false, timer := some 5 }
    let released := s { state := .released, valve := true, auto := false, timer := none }
    NothingQueued released ∧ engaging.orphanedFrom (.axis .x) = some .link1 ∧ engaging.standing .x = true ∧ engaging.machine ≠ .start ∧
      ({ engaging with inputs := Inputs.setClampSwitch engaging.inputs .x .engaged true }).agreeEngaged .x = true ∧
      (ends (.clamp .x .engaged) engaging).claims.axes.x = heldBy .link2 ∧
      (after (.clampEngageTimerExpiry .x) engaging).ports.link2.events = [.claimGranted (.axis .x)] ∧
      (after .standstillTimerExpiry released).clamps.x.state = .engaging ∧ (after .standstillTimerExpiry released).claims.axes.x = lostRow :=
  ⟨all_ports (by decide +kernel), by decide +kernel⟩

theorem test_meets_OrphanedSpindle :
    let s : State :=
      { turning with
        spindle := { turning.spindle with state := .stopping, speed := 0, cmdCode := 0, cmdDir := none, stopTimer := some 5, standstillTimer := some 5, outCode := 0, relay := none }
        claims := { turning.claims with spindle := lostRow, coolant := lostRow, spindleStopSent := true }
        coolant := { turning.coolant with mode := .flood, flood := .on, floodPump := true } }
    NothingQueued s ∧ s.orphanedFrom .spindle = some .link1 ∧ s.orphanedFrom .coolant = some .link1 ∧ s.spindle.state.isFault = false ∧
      (after .spindleStopTimerExpiry s).claims.spindle = heldBy .link2 ∧ (after .spindleStopTimerExpiry s).coolant.floodPump = false ∧
      (after .standstillTimerExpiry s).spindle.state = .stopped ∧ (after .standstillTimerExpiry s).claims.coolant = heldBy .link2 ∧
      (after .standstillTimerExpiry s).ports.link2.events = [.claimGranted .spindle, .claimGranted .coolant] :=
  ⟨all_ports (by decide +kernel), by decide +kernel⟩

theorem test_meets_CutCommands :
    let comp := after (.compData .link1 { bytes := [5, 0, 0, 9], bits := [] }) mine
    let conf := after (.configWrite .link1 { bytes := [12, 3, 0, 0, 0, 0, 9, 3], bits := [] }) mine
    let bad := after (.compData .link1 { bytes := [5, 9, 0], bits := [] }) mine
    (comp.ports.get .link1).phase = .parameters 67 5 [0, 0, 9] ∧ (conf.ports.get .link1).phase = .parameters 128 12 [3, 0, 0, 0, 0, 9, 3] ∧
      comp.hasClaim .link1 (.axis .x) = true ∧ (comp.axes.get .x).compEnabled = false ∧ (bad.ports.get .link1).phase = .parameters 67 5 [9, 0] ∧
      (brk .link1 comp).config.comp.x.head? = some 9 ∧ (brk .link1 conf).config.axes.x.rateMax = 9 ∧
      (brk .link1 bad).config = mine.config :=
  by decide +kernel

theorem test_meets_SeveralValues :
    let s := withX (fun u => { u with window := { first := 62, last := 63, pointer := some 62, method := .stop } }) mine
    Ready s .link1 ∧ s.hasClaim .link1 (.axis .x) = true ∧ s.axes.x.compEnabled = false ∧
      reply .link1 (after (.compData .link1 (frame [0, 0, 5, 0, 6, 0, 7])) s) = [0, 2, 1, 255] ∧
      ((after (.compData .link1 (frame [0, 0, 5, 0, 6, 0, 7])) s).config.comp.x.drop 61) = [0, 5, 6] ∧
      reply .link2 (after (.compData .link2 (frame [0, 0, 5])) s) = [3] ∧
      reply .link1 (after (.compData .link1 (frame [0, 0, 5])) (withX (fun u => { u with compEnabled := true }) s)) = [13] :=
  ⟨ready_of (by decide +kernel), by decide +kernel⟩

theorem test_meets_SeveralGroups :
    reply .link1 (after (.configWrite .link1 (frame [3, 0, 0, 0, 0, 9, 99, 0, 0, 0, 0, 0, 3, 0, 0, 0, 0, 0, 3, 1, 0, 0, 0, 8])) mine) = [0, 2, 6] ∧
      (after (.configWrite .link1 (frame [3, 0, 0, 0, 0, 9, 99, 0, 0, 0, 0, 0, 3, 0, 0, 0, 0, 0, 3, 1, 0, 0, 0, 8])) mine).config.axes.y.rateMax = 8 ∧
      reply .link1 (after (.configWrite .link1 (frame [3, 0, 0, 0, 0])) mine) = [6] ∧ mine.groupCheck .link1 (.axis .x 3) 9 = .ok ∧
      mine.groupCheck .link1 (.axis .x 3) 0 ≠ .ok ∧ Param.ofId 99 0 = none :=
  by decide +kernel

theorem test_meets_FaultsThatStay :
    let s := withX (fun u => { u with fault := some .drive })
      { mine.updClamp .y (fun c => { c with state := .fault .switch }) with
        inputs := { mine.inputs with driveReady := .const false, spindleReady := false, lowLevel := true, clampEngaged := .const false }
        spindle := { mine.spindle with state := .fault .drive }, coolant := { mine.coolant with flood := .fault .lowLevel, through := .fault .lowLevel } }
    Ready s .link1 ∧ Quiet s ∧ s.machine = .run ∧ reply .link1 (after (.machineReset .link1 (frame [])) s) = [0, 3, 1, 2, 14] ∧
      (after (.machineReset .link1 (frame [])) s).axes.x.fault = some .drive ∧ (after (.machineReset .link1 (frame [])) s).coolant = s.coolant :=
  ⟨ready_of (by decide +kernel), quiet_of mine_quiet rfl rfl rfl, by decide +kernel⟩

theorem test_meets_ReadZonesCut :
    let z : Zone := .const (some { lo := 1, hi := 2 })
    let s : State := { base with zones := List.replicate 16 (some { pinned := false, zone := z }) }
    (reply .link1 (after (.readZones .link1 (frame [])) s)).length = 248 ∧ (reply .link1 (after (.readZones .link1 (frame [])) s)).take 2 = [0, 128] :=
  by decide +kernel

theorem test_meets_EngageWaitsForRest :
    let k : EntryKind := .feed [{ axis := .x, delta := 10 }] 10 120000 .auto
    let s : State := headed k (.starting (some .takeUp)) none (withX (fun u => { u with takeUp := some 5 }) (open1.updClamp .x (fun c => { c with auto := true })))
    s.standing .x = false ∧ (after (.flush .link1 (frame [])) s).clamps.x.state = .released ∧ (after (.flush .link1 (frame [])) s).axes.x.takeUp = some 5 ∧
      (after (.flush .link1 (frame [])) (withX (fun u => { u with takeUp := none }) s)).clamps.x.state = .engaging :=
  by decide +kernel

theorem test_meets_FlushUnplans :
    let s : State :=
      { moving with
        queues := { moving.queues with link1 := { moving.queues.link1 with entries := [feedX, feedX] } }
        planned := { moving.planned with link1 := (moving.planned.link1).set .x (some 20) } }
    (after (.flush .link1 (frame [])) s).planned.link1.x = some 10 ∧ (after (.flush .link1 (frame [])) s).queues.link1.entries = [feedX] :=
  by decide +kernel

theorem test_meets_StartEnds :
    let ready := { State.reset with inputs := { inputs with clampEngaged := inputs.clampEngaged.set .y false } }
    let low := { State.reset with inputs := { inputs with lowLevel := true, spindleReady := false } }
    ready.machine = .start ∧ ready.clamps.x.state = .engaging ∧ ready.spindle.state = .stopped ∧ ready.orphanedFrom .coolant = none ∧
      ready.agreeEngaged .x = true ∧ ready.agreeEngaged .y = false ∧ (ready.ports.get .link1).state = .active ∧
      (after (.startUpLoadEnd true) ready).clamps.x.state = .engaged ∧ (after (.startUpLoadEnd true) ready).clamps.y.timer = some 1500 ∧
      (after (.startUpLoadEnd true) ready).spindle.engaged = some .ii ∧ (after (.startUpLoadEnd true) ready).coolant = ready.coolant ∧
      (after (.startUpLoadEnd true) ready).ports.link1.events = [.machineState .resetWait] ∧
      (after (.startUpLoadEnd true) low).spindle.state = .fault .drive ∧ (after (.startUpLoadEnd true) low).coolant.flood = .fault .lowLevel ∧
      (after (.startUpLoadEnd true) low).coolant.through = .fault .lowLevel :=
  by decide +kernel

theorem test_meets_MachineStateIsRaised :
    (mine.ports.get .link2).state = .active ∧ (mine.ports.get .link2).events.length < 32 ∧
      (after .chainCloses { mine with machine := .estop }).ports.link2.events = [.machineState .resetWait] ∧
      (after (.machineReset .link1 (frame [])) { mine with machine := .resetWait }).ports.link2.events = [.machineState .run] ∧
      (after (.machineReset .link1 (frame [])) mine).ports.link2.events = [] :=
  by decide +kernel

theorem test_meets_ClampFaultIsCleared :
    let s := mine.updClamp .x (fun _ => { state := .fault .switch, valve := false, auto := false, timer := none })
    Ready s .link1 ∧ Quiet s ∧ (s.clamps.get .x).state.isFault = true ∧ s.agreeEngaged .x = true ∧ s.machine = .run ∧
      (after (.machineReset .link1 (frame [])) s).clamps.x.state = .engaged :=
  ⟨ready_of (by decide +kernel), quiet_of mine_quiet rfl rfl rfl, by decide +kernel⟩

theorem test_meets_ReferenceStarts :
    let e : Entry := { tag := 7, kind := .reference .w }
    let s : State := open1.updClamp .w (fun _ => { state := .released, valve := true, auto := false, timer := none })
    Ready s .link1 ∧ (∀ c, (s.axes.get c).fault = none) ∧ (∀ q, q ≠ .link1 → (s.queues.get q).entries = [] ∨ (s.queues.get q).moving = true) ∧
      decEntry [0, 7, 3, 3] = some e ∧ s.machine = .run ∧ (s.queues.get .link1).entries = [] ∧ s.moves.get .link1 = none ∧
      s.hasClaim .link1 (.axis .w) = true ∧ s.axes.w.takeUp = none ∧ s.axes.w.compEnabled = false ∧ s.hands.w.pending = 0 ∧
      (s.clamps.get .w).state = .released ∧ s.holds.isEmpty = true ∧ 0 < s.config.axes.w.refSearchMax ∧
      reply .link1 (after (.queueEntry .link1 (frame [0, 7, 3, 3])) s) = [0, 1] ∧
      (after (.queueEntry .link1 (frame [0, 7, 3, 3])) s).axes.w.search = .search ∧
      ((after (.queueEntry .link1 (frame [0, 7, 3, 3])) s).moves.link1.map (fun m => (m.vAxes, m.accel))) = some (20480, 64) :=
  ⟨ready_of (by decide +kernel), all_axes (by decide +kernel), all_ports (by decide +kernel), by decide +kernel⟩

theorem test_meets_ReferenceIsCaptured :
    let e : Entry := { tag := 7, kind := .reference .w }
    let s : State := open1.updClamp .w (fun _ => { state := .released, valve := true, auto := false, timer := none })
    let q : Queue := { entries := [e], head := .executing, stop := .running, timer := none }
    let t : State :=
      { s.updAxis .w (fun u => { u with search := .index, referenced := false, cmd := -413117, out := -413117, meas := -413116 }) with
        queues := { s.queues with link1 := q }, moves := { s.moves with link1 := some { s.moveOf e with s := 105758080, v := 1280 } } }
    let c := after (.indexEdge .w) t
    (∀ a, (t.axes.get a).fault = none) ∧ (∀ p, (t.queues.get p).entries = [] ∨ (t.queues.get p).moving = true) ∧ t.axes.w.search = .index ∧
      (s.moveOf e).kind = .reference ∧ c.axes.w.cmd = -1 ∧ c.axes.w.meas = 0 ∧ c.axes.w.search = .captured ∧
      (c.moves.link1.map (fun m => (m.axes.map (·.start), m.seen, m.stop))) = some ([413116], true, true) ∧
      after (.indexEdge .w) c = c :=
  ⟨all_axes (by decide +kernel), all_ports (by decide +kernel), by decide +kernel⟩

theorem test_meets_ReferencesEnd :
    let e : Entry := { tag := 7, kind := .reference .w }
    let s : State := open1.updClamp .w (fun _ => { state := .released, valve := true, auto := false, timer := none })
    let t (seen stop : Bool) (at_ v : Nat) (start : Int) (cause : StopCause) : State :=
      let m := s.moveOf e
      { s.updAxis .w (fun u => { u with search := .captured, referenced := false }) with
        queues := { s.queues with link1 := { entries := [e], head := .executing, stop := cause, timer := none } }
        moves := { s.moves with
          link1 := some { m with
            axes := m.axes.map (fun j => { j with start := start }), s := at_, v := v, braking := true, seen := seen, stop := stop } } }
    let short := after .motionPeriod (t true true 105770240 64 413116 .running)
    let landed (seen : Bool) (cause : StopCause) := after .motionPeriod (t seen seen 767999960 64 0 cause)
    let flushed := after .motionPeriod (t true true 105770240 64 413116 .flushed)
    (s.moveOf e).axes.map (·.axis) = [.w] ∧ (∀ a, (t true true 105770240 64 413116 .running).followingExceeded a = false) ∧
      short.axes.w.cmd = -49 ∧ short.axes.w.referenced = true ∧ short.axes.w.search = .none ∧ short.planned.link1.w = some (-49) ∧
      short.ports.link1.events = [.entryDone 7 false] ∧
      (landed true .running).axes.w.referenced = true ∧ (landed false .running).ports.link1.events = [.entryFailed 7 .refFail] ∧
      (landed false .running).axes.w.referenced = false ∧ (landed false .flushed).ports.link1.events = [.entryDone 7 false] ∧ (landed false .flushed).axes.w.referenced = false ∧
      flushed.ports.link1.events = [.entryFailed 7 .flushed] ∧ flushed.axes.w.referenced = false :=
  ⟨by decide +kernel, all_axes (by decide +kernel), by decide +kernel⟩

theorem test_meets_EntriesJoin :
    let bs := feedXBytes
    let t := after (.queueEntry .link1 (frame bs)) moving
    let d := headed (.dwell 5) .executing (some 5) open1
    Ready moving .link1 ∧ (∀ m, moving.moves.get .link1 = some m → ∀ j ∈ m.axes, (moving.axes.get j.axis).fault = none) ∧ decEntry bs = some feedX ∧
      (moving.queues.get .link1).state = .running ∧ (moving.queues.get .link1).moving = true ∧ moving.entryMotionCheck .link1 feedX.kind = none ∧
      t.queues.link1.entries = [feedX, feedX] ∧ t.planned.link1.x = some 20 ∧ reply .link1 t = [0, 2] ∧
      (d.queues.get .link1).state = .running ∧ (after (.queueEntry .link1 (frame bs)) d).queues.link1.entries.length = 2 ∧
      open1.judgeMotion .link1 feedX.kind = .passes ∧ (after (.queueEntry .link1 (frame bs)) open1).moves.link1 = some (open1.moveOf feedX) :=
  ⟨ready_of (by decide +kernel), fun m h => by cases h; decide +kernel, by decide +kernel⟩

theorem test_meets_ConfigReadList :
    (∀ x ∈ [((2 : Byte), (0 : Byte), Param.axis .x 2), (35, 0, .pinnedCount)], Param.ofId x.1.toNat x.2.1.toNat = some x.2.2) ∧
      reply .link1 (after (.configRead .link1 (frame [2, 0, 35])) base) = [6] ∧
      reply .link1 (after (.configRead .link1 (frame [2, 0, 255, 0])) base) = [6] ∧
      reply .link1 (after (.configRead .link1 (frame (List.replicate 42 0))) base) = [6] :=
  by decide +kernel

theorem test_meets_CoolantReplies :
    let s := { mine with spindle := { mine.spindle with measured := 1000 } }
    reply .link1 (after (.coolant .link1 (frame [1])) mine) = [0, 1, 1, 0] ∧ reply .link1 (after (.coolant .link1 (frame [2])) mine) = [0, 2, 0, 1] ∧
      reply .link1 (after (.coolant .link1 (frame [2])) s) = [0, 2, 0, 2] ∧
      reply .link1 (after (.coolant .link1 (frame [3])) { s with inputs := { s.inputs with coolantPressure := true } }) = [0, 3, 1, 3] :=
  by decide +kernel

theorem test_meets_EstopRecords :
    let s : State := { moving with queues := { moving.queues with link1 := { moving.queues.link1 with entries := [feedX, feedX] } } }
    ValveLaw s ∧ SpindleLaw s ∧ s.machine = .run ∧ s.clamps.x.state = .released ∧ s.standing .x = false ∧ s.agreeEngaged .x = false ∧
      s.clamps.x.state.demands = true ∧ s.holder (.axis .x) = some .link1 ∧ s.axes.x.fault = none ∧
      (after .chainOpens s).ports.link1.events = [.machineState .estop, .axisFault .x .clamp, .entryFailed 7 .estop, .queueFlushed 1] ∧
      (after .chainOpens s).clamps.x = { state := .engaging, valve := false, auto := false, timer := some 1500 } ∧
      (after .chainOpens s).axes.y.fault = none :=
  ⟨⟨all_axes (by decide +kernel), all_axes (by decide +kernel)⟩, ⟨⟨rfl, rfl, rfl, rfl⟩, rfl, fun _ => by decide +kernel⟩, by decide +kernel⟩

theorem test_meets_PressureLossRecords :
    let s := { moving with hyd := { moving.hyd with dipTimer := some 1 }, spindle := { moving.spindle with state := .shifting .i .hyd } }
    ValveLaw s ∧ s.spindle.state.demands = true ∧ s.clamps.x.state = .released ∧ s.standing .x = false ∧ s.holder .spindle = some .link1 ∧
      (after .hydDipTimerExpiry s).ports.link1.events = [.hydraulicLost, .axisFault .x .clamp, .gearFault .hydraulic, .entryFailed 7 .axis] ∧
      (after .hydDipTimerExpiry s).clamps.x.state = .engaging :=
  ⟨⟨all_axes (by decide +kernel), all_axes (by decide +kernel)⟩, by decide +kernel⟩

theorem test_meets_HeadsAreJudged :
    let t := after (.queueEntry .link1 (frame feedXBytes)) up
    let w := after (.queueEntry .link1 (frame feedXBytes)) mine
    Ready mine .link1 ∧ (∀ a, (mine.clamps.get a).state = .engaged) ∧ (∀ a, mine.agreeReleased a = false) ∧ (∀ o, mine.moves.get o = none) ∧
      decEntry feedXBytes = some feedX ∧ mine.judgeMotion .link1 feedX.kind = .waits .clamps ∧ mine.hyd.state = .off ∧ mine.demand = false ∧
      t.clamps.x = { state := .releasing, valve := true, auto := true, timer := some 1500 } ∧
      w.clamps.x = { state := .releaseWait, valve := false, auto := true, timer := none } ∧ w.hyd.state = .starting ∧
      (withX (fun u => { u with fault := some .drive }) mine).judgeMotion .link1 feedX.kind = .fails .axis ∧
      (after (.queueEntry .link1 (frame feedXBytes)) (withX (fun u => { u with fault := some .drive }) mine)).ports.link1.events =
        [.entryFailed 7 .axis] :=
  ⟨ready_of (by decide +kernel), all_axes (by decide +kernel), all_axes (by decide +kernel), all_ports (by decide +kernel), by decide +kernel⟩

theorem test_meets_SelectEvents :
    let s := after (.linkBreak ⟨.link1, .rises⟩) (after (.compData .link1 { bytes := [5, 0, 0], bits := [true] }) mine)
    let low := after (.linkBreak ⟨.link1, .falls⟩) s
    (s.ports.get .link1).breakTimer ≠ none ∧ (s.ports.get .link1).select = true ∧ (s.ports.get .link1).phase = .parameters 67 5 [0, 0] ∧
      (low.ports.get .link1).breakTimer = none ∧ (low.ports.get .link1).select = false ∧
      linkRow (.compData .link1 { bytes := [], bits := [true] }) = some (.link1, 67, { bytes := [], bits := [true] }) ∧
      (after (.compData .link1 { bytes := [], bits := [true] }) low).ports.link1.bits = [true] :=
  by decide +kernel

end Sys2Proof.Tests
end

section
/-! PROOFS. A complete frame without parameters whose command changes nothing leaves only its reply; READ CLAIMS (R11) is such a
command. -/

namespace Sys2Proof.Machine

open Sys2Proof.Safety

/-! ### Updates of one port, one after the other -/

/-- Two updates of one port are one update of it. -/
theorem State.updPort_updPort (s : State) (p : Port) (f g : LinkPort → LinkPort) :
    (s.updPort p f).updPort p g = s.updPort p (fun l => g (f l)) := by
  cases p <;> rfl

/-- An update that keeps the state of its port keeps whether the port is engaged (R187). -/
theorem State.engaged_updPort (s : State) (p : Port) (f : LinkPort → LinkPort)
    (hf : (f (s.ports.get p)).state = (s.ports.get p).state) : (s.updPort p f).engaged p = s.engaged p := by
  have hport : ((s.updPort p f).ports.get p).state = (s.ports.get p).state := by
    rw [State.updPort_ports, PerPort.get_set_same, hf]
  simp only [State.engaged, hport]
  rfl

/-- The silence timer of an engaged port restarts, that of another port stays (R187). -/
theorem State.restartSilence_eq_updPort (s : State) (p : Port) :
    s.restartSilence p =
      s.updPort p (fun l => { l with silence := if s.engaged p then timerOf (s.config.silence.get p) else l.silence }) := by
  unfold State.restartSilence
  split
  · rfl
  · cases p <;> rfl

/-! ### The state in which a command is decided (R180) -/

/-- Taking a command's bytes leaves its port ACTIVE or LOST as it was. -/
theorem completing_port_state (s : State) (p : Port) (code n : Byte) (ps : List Byte) :
    ((completing s p code n ps).ports.get p).state = (s.ports.get p).state := by
  simp only [completing, State.updPort_ports, PerPort.get_set_same]

/-- Taking a command's bytes leaves its port engaged or not as it was. -/
theorem completing_engaged (s : State) (p : Port) (code n : Byte) (ps : List Byte) :
    (completing s p code n ps).engaged p = s.engaged p :=
  s.engaged_updPort p _ rfl

/-- The command byte and the length byte 0 make a complete command (R180). -/
theorem State.clockIn_emptyFrame (s : State) (p : Port) (code : Byte) (h : Listening s p) :
    s.clockIn p code (frame []) = ((completing s p code 0 []).completeCommand p code 0 []).setBits p [] := by
  have hidle : ((s.setBits p []).ports.get p).phase = .idle := by
    simpa only [State.setBits, State.updPort_ports, PerPort.get_set_same] using h.1
  have hcode : State.clockByte p (s.setBits p []) code = completing s p code 0 [] := by
    simp only [State.clockByte, hidle]
    exact s.updPort_updPort p _ _
  have hphase : ((completing s p code 0 []).ports.get p).phase = .length code := by
    simp only [completing, State.updPort_ports, PerPort.get_set_same, if_true]
  have hlength : State.clockByte p (completing s p code 0 []) 0 = (completing s p code 0 []).completeCommand p code 0 [] := by
    simp only [State.clockByte, hphase, true_or, if_true]
  have hzero : enc1 ([] : List Byte).length = 0 := rfl
  rw [State.clockIn_frame s p code [] h, hzero, List.foldl_cons, hcode, List.foldl_cons, hlength, List.foldl_nil]

/-! ### A command that changes nothing (R181) -/

/-- A decided command that changes nothing leaves its reply, the cut flag cleared (R183) and the silence timer restarted (R187). -/
theorem State.completeCommand_of_unchanged (s : State) (p : Port) (code n : Byte) (ps : List Byte)
    (h : ((completing s p code n ps).decideCommand p code n ps).changed = none) :
    ((completing s p code n ps).completeCommand p code n ps).setBits p [] =
      onlyReply s p ((completing s p code n ps).decideCommand p code n ps).reply := by
  simp only [State.completeCommand, State.commit, h, State.restartSilence_eq_updPort, completing_engaged]
  simp only [completing, State.setBits, State.updPort_updPort, State.updPort_config]
  rfl

/-- A row that is a frame without parameters, of a command that changes nothing, on a port that listens. -/
theorem exec_emptyFrame_of_unchanged {i : Instr} {p : Port} {code : Byte} {s : State} {e : Effect}
    (hrow : linkRow i = some (p, code, frame [])) (hport : Listening s p)
    (he : (completing s p code 0 []).decideCommand p code 0 [] = e) (hkept : e.changed = none) :
    exec i s = .next (onlyReply s p e.reply) := by
  subst he
  rw [exec_linkRow hrow, State.clockIn_emptyFrame s p code hport, State.completeCommand_of_unchanged s p code 0 [] hkept]

/-! ### The checks out of START (R184) -/

/-- An ACTIVE port's command of an allowed length is judged by its owning block. -/
theorem State.decideCommand_active {s : State} {p : Port} {code n : Byte} {c : Cmd} (ps : List Byte)
    (hcode : Cmd.ofCode code.toNat = some c) (hmachine : s.machine ≠ .start) (hactive : (s.ports.get p).state = .active)
    (hlength : c.lengthOk n.toNat = true) : s.decideCommand p code n ps = s.runCommand p c ps := by
  simp [State.decideCommand, hcode, hmachine, hactive, hlength]

/-- A LOST port's command that is not one of the four it may give is refused, whatever its length. -/
theorem State.decideCommand_lost {s : State} {p : Port} {code : Byte} {c : Cmd} (n : Byte) (ps : List Byte)
    (hcode : Cmd.ofCode code.toNat = some c) (hmachine : s.machine ≠ .start) (hlost : (s.ports.get p).state = .lost)
    (hrefused : c.inLost = false) : s.decideCommand p code n ps = .refuse .lost := by
  simp [State.decideCommand, hcode, hmachine, hlost, hrefused]

/-! ### READ CLAIMS (R11) -/

/-- READ CLAIMS reads the claim table alone, which taking the bytes of the frame leaves as it stood. -/
theorem completing_effReadClaims (s : State) (p : Port) (code n : Byte) (ps : List Byte) :
    (completing s p code n ps).effReadClaims = s.effReadClaims := rfl

/-- Settles O30: the frame without parameters is complete at its length byte; an ACTIVE port's is judged on the table as it stood,
a LOST port's is refused, and neither changes anything. -/
theorem readClaimsReportsTheTable : Obligations.ReadClaimsReportsTheTable := by
  intro p s hport hmachine
  have hcode : Cmd.ofCode (35 : Byte).toNat = some .readClaims := rfl
  have hstart : (completing s p 35 0 []).machine ≠ .start := hmachine
  have hstate := completing_port_state s p 35 0 []
  refine ⟨fun hactive => ?_, fun hlost => ?_⟩
  · have hread : (completing s p 35 0 []).decideCommand p 35 0 [] = s.effReadClaims :=
      (State.decideCommand_active [] hcode hstart (hstate.trans hactive) rfl).trans (completing_effReadClaims s p 35 0 [])
    exact exec_emptyFrame_of_unchanged rfl hport hread rfl
  · have hrefuse : (completing s p 35 0 []).decideCommand p 35 0 [] = .refuse .lost :=
      State.decideCommand_lost 0 [] hcode hstart (hstate.trans hlost) rfl
    exact exec_emptyFrame_of_unchanged rfl hport hrefuse rfl

end Sys2Proof.Machine
end

section
/-! PROOFS. A READY port's frame without parameters is run by its owning block; READ POSITIONS (R93) is answered with the five axis
reports and changes nothing else. -/

namespace Sys2Proof.Machine

open Sys2Proof.Safety

/-! ### A read command of a port that takes commands (R180, R184) -/

/-- A frame without parameters, of a command whose owning block answers it and changes nothing, leaves that block's reply alone. -/
theorem exec_emptyFrame_of_ready {i : Instr} {p : Port} {code : Byte} {c : Cmd} {s : State} {e : Effect}
    (hrow : linkRow i = some (p, code, frame [])) (hcode : Cmd.ofCode code.toNat = some c) (hlength : c.lengthOk (0 : Byte).toNat = true)
    (hready : Ready s p) (hrun : (completing s p code 0 []).runCommand p c [] = e) (hkept : e.changed = none) :
    exec i s = .next (onlyReply s p e.reply) := by
  obtain ⟨hport, hactive, hmachine⟩ := hready
  have hstart : (completing s p code 0 []).machine ≠ .start := hmachine
  have hstate := (completing_port_state s p code 0 []).trans hactive
  have hdecided := (State.decideCommand_active [] hcode hstart hstate hlength).trans hrun
  exact exec_emptyFrame_of_unchanged hrow hport hdecided hkept

/-! ### READ POSITIONS (R93) -/

/-- The axis reports read no port, and taking the bytes of the frame changes the port alone. -/
theorem completing_effReadPositions (s : State) (p : Port) (code n : Byte) (ps : List Byte) :
    (completing s p code n ps).effReadPositions = s.effReadPositions := rfl

/-- Five flags in one byte weigh 1, 2, 4, 8 and 16 (R200). -/
theorem encBits_five (f0 f1 f2 f3 f4 : Bool) :
    encBits [f0, f1, f2, f3, f4] =
      (if f0 then 1 else 0) + (if f1 then 2 else 0) + (if f2 then 4 else 0) + (if f3 then 8 else 0) + (if f4 then 16 else 0) := by
  have twice (f : Bool) (n : Nat) : 2 * (if f then n else 0) = if f then 2 * n else 0 := by cases f <;> rfl
  simp only [encBits, Nat.mul_add, Nat.mul_zero, Nat.add_zero, Nat.add_assoc, twice, Nat.reduceMul]

/-- Settles O32: the complete frame is answered with the report of each axis, whose coordinates are k = O - T and E = O less the
backlog, and whose last three bytes are the flags, the fault's code and the search phase's code. -/
theorem readPositionsReportsTheAxes : Obligations.ReadPositionsReportsTheAxes := by
  intro p s hready
  have hrun : (completing s p 64 0 []).runCommand p .readPositions [] = s.effReadPositions := completing_effReadPositions s p 64 0 []
  rw [exec_emptyFrame_of_ready rfl rfl rfl hready hrun rfl]
  refine congrArg (fun reports => Host.Outcome.next (onlyReply s p (0 :: reports))) (congrArg (Axis.all.flatMap ·) (funext fun a => ?_))
  refine congrArg (_ ++ ·) (List.cons_eq_cons.mpr ⟨?flags, List.cons_eq_cons.mpr ⟨?fault, congrArg ([·]) ?search⟩⟩)
  case flags => exact congrArg enc1 (encBits_five _ _ _ _ _)
  case fault =>
    match (s.axes.get a).fault with
    | none => rfl
    | some cause => cases cause <;> rfl
  case search => cases (s.axes.get a).search <;> rfl

end Sys2Proof.Machine
end
